-- ==== Sys2Proof/Word.lean ====
section
/-! DEFINITION. The word types: a byte is 8 bits, a word 16 bits (00_scope.md R8, R9). -/

namespace Sys2Proof

/-- A byte: width of A, X, Y, S, P and of every memory cell (R7 `XLEN`, R8). -/
abbrev Byte := BitVec 8

/-- A word: width of PC and of a CPU address (R7 `PCLEN`, R8). -/
abbrev Word := BitVec 16

end Sys2Proof
end

