-- ==== Sys2Proof/Machine/Bits.lean ====
section
/-! DEFINITION. Bit-field, extension and byte-order helpers (00_scope.md R8, R9; 20_memory.md R73). -/

namespace Sys2Proof

/-- `{hi, lo}`: the 16-bit value with high byte `hi` and low byte `lo` (R8). -/
def wordOf (hi lo : Byte) : Word := hi ++ lo

/-- `v[7:0]` of a word: PCL, the byte at the lower address (R10, R73). -/
def lowByte (w : Word) : Byte := w.extractLsb' 0 8

/-- `v[15:8]` of a word: PCH (R10). -/
def highByte (w : Word) : Byte := w.extractLsb' 8 8

/-- `zext_16` (R9). -/
def zext16 (b : Byte) : Word := b.setWidth 16

/-- `sext_16` (R9). -/
def sext16 (b : Byte) : Word := b.signExtend 16

/-- `{$00, b}`: a page-zero address (R127). -/
def zeroPage (b : Byte) : Word := wordOf 0x00 b

/-- `{$01, b}`: a stack address (R12, R22). -/
def stackPage (b : Byte) : Word := wordOf 0x01 b

/-- `{hi, (lo + idx)[7:0]}`: an indexed address before the carry reaches the high byte (R129, R531). -/
def uncorrected (base : Word) (idx : Byte) : Word := wordOf (highByte base) (lowByte base + idx)

/-- `(base + zext_16(idx))[15:0]` (R129, R132). -/
def indexed (base : Word) (idx : Byte) : Word := base + zext16 idx

/-- The page-crossing condition `lo + idx > 255` as integers (R129, R132, R546). -/
def crossesPage (base : Word) (idx : Byte) : Bool := decide (255 < (lowByte base).toNat + idx.toNat)

/-- A bit as a 1-bit value. -/
def bit1 (b : Bool) : BitVec 1 := BitVec.ofBool b

/-- `v[7]`. -/
def bit7 (v : Byte) : Bool := v.getLsbD 7

/-- The four-bit field `v[3:0]` as an integer. -/
def lowNibble (v : Byte) : Nat := v.toNat % 16

/-- `v & $F0` as an integer. -/
def highNibblePart (v : Byte) : Nat := v.toNat / 16 * 16

/-- Whether both nibbles are decimal digits (R187). -/
def validBcd (v : Byte) : Bool := decide (lowNibble v ≤ 9) && decide (v.toNat / 16 ≤ 9)

end Sys2Proof
end

