-- ==== Sys2Proof/Syntax.lean ====
section
/-! DEFINITION. The syntax of instructions: one constructor for every row of spec/opcode_table.json: the 151
documented opcodes in opcode order, then the 105 undocumented ones (30_encoding.md R140, R151). A two-byte form carries its operand byte, a three-byte form its 16-bit operand
`{b2, b1}` (R120). The 105 undocumented opcodes carry nothing: their operands are never fetched (R150). -/

namespace Sys2Proof

inductive Instr where
  /-- `$00`: BRK implied, R258. -/
  | brk
  /-- `$01`: ORA (zp,X), R202. -/
  | oraIndx (b : Byte)
  /-- `$05`: ORA zero page, R202. -/
  | oraZp (b : Byte)
  /-- `$06`: ASL zero page, R211. -/
  | aslZp (b : Byte)
  /-- `$08`: PHP implied, R177. -/
  | php
  /-- `$09`: ORA immediate, R202. -/
  | oraImm (v : Byte)
  /-- `$0A`: ASL accumulator, R211. -/
  | aslAcc
  /-- `$0D`: ORA absolute, R202. -/
  | oraAbs (a : Word)
  /-- `$0E`: ASL absolute, R211. -/
  | aslAbs (a : Word)
  /-- `$10`: BPL relative, R231. -/
  | bpl (d : Byte)
  /-- `$11`: ORA (zp),Y, R202. -/
  | oraIndy (b : Byte)
  /-- `$15`: ORA zero page,X, R202. -/
  | oraZpx (b : Byte)
  /-- `$16`: ASL zero page,X, R211. -/
  | aslZpx (b : Byte)
  /-- `$18`: CLC implied, R251. -/
  | clc
  /-- `$19`: ORA absolute,Y, R202. -/
  | oraAbsy (a : Word)
  /-- `$1D`: ORA absolute,X, R202. -/
  | oraAbsx (a : Word)
  /-- `$1E`: ASL absolute,X, R211. -/
  | aslAbsx (a : Word)
  /-- `$20`: JSR absolute, R240. -/
  | jsr (a : Word)
  /-- `$21`: AND (zp,X), R201. -/
  | andIndx (b : Byte)
  /-- `$24`: BIT zero page, R204. -/
  | bitZp (b : Byte)
  /-- `$25`: AND zero page, R201. -/
  | andZp (b : Byte)
  /-- `$26`: ROL zero page, R213. -/
  | rolZp (b : Byte)
  /-- `$28`: PLP implied, R180. -/
  | plp
  /-- `$29`: AND immediate, R201. -/
  | andImm (v : Byte)
  /-- `$2A`: ROL accumulator, R213. -/
  | rolAcc
  /-- `$2C`: BIT absolute, R204. -/
  | bitAbs (a : Word)
  /-- `$2D`: AND absolute, R201. -/
  | andAbs (a : Word)
  /-- `$2E`: ROL absolute, R213. -/
  | rolAbs (a : Word)
  /-- `$30`: BMI relative, R232. -/
  | bmi (d : Byte)
  /-- `$31`: AND (zp),Y, R201. -/
  | andIndy (b : Byte)
  /-- `$35`: AND zero page,X, R201. -/
  | andZpx (b : Byte)
  /-- `$36`: ROL zero page,X, R213. -/
  | rolZpx (b : Byte)
  /-- `$38`: SEC implied, R252. -/
  | sec
  /-- `$39`: AND absolute,Y, R201. -/
  | andAbsy (a : Word)
  /-- `$3D`: AND absolute,X, R201. -/
  | andAbsx (a : Word)
  /-- `$3E`: ROL absolute,X, R213. -/
  | rolAbsx (a : Word)
  /-- `$40`: RTI implied, R259. -/
  | rti
  /-- `$41`: EOR (zp,X), R203. -/
  | eorIndx (b : Byte)
  /-- `$45`: EOR zero page, R203. -/
  | eorZp (b : Byte)
  /-- `$46`: LSR zero page, R212. -/
  | lsrZp (b : Byte)
  /-- `$48`: PHA implied, R178. -/
  | pha
  /-- `$49`: EOR immediate, R203. -/
  | eorImm (v : Byte)
  /-- `$4A`: LSR accumulator, R212. -/
  | lsrAcc
  /-- `$4C`: JMP absolute, R239. -/
  | jmpAbs (a : Word)
  /-- `$4D`: EOR absolute, R203. -/
  | eorAbs (a : Word)
  /-- `$4E`: LSR absolute, R212. -/
  | lsrAbs (a : Word)
  /-- `$50`: BVC relative, R233. -/
  | bvc (d : Byte)
  /-- `$51`: EOR (zp),Y, R203. -/
  | eorIndy (b : Byte)
  /-- `$55`: EOR zero page,X, R203. -/
  | eorZpx (b : Byte)
  /-- `$56`: LSR zero page,X, R212. -/
  | lsrZpx (b : Byte)
  /-- `$58`: CLI implied, R253. -/
  | cli
  /-- `$59`: EOR absolute,Y, R203. -/
  | eorAbsy (a : Word)
  /-- `$5D`: EOR absolute,X, R203. -/
  | eorAbsx (a : Word)
  /-- `$5E`: LSR absolute,X, R212. -/
  | lsrAbsx (a : Word)
  /-- `$60`: RTS implied, R241. -/
  | rts
  /-- `$61`: ADC (zp,X), R186. -/
  | adcIndx (b : Byte)
  /-- `$65`: ADC zero page, R186. -/
  | adcZp (b : Byte)
  /-- `$66`: ROR zero page, R214. -/
  | rorZp (b : Byte)
  /-- `$68`: PLA implied, R179. -/
  | pla
  /-- `$69`: ADC immediate, R186. -/
  | adcImm (v : Byte)
  /-- `$6A`: ROR accumulator, R214. -/
  | rorAcc
  /-- `$6C`: JMP indirect, R239. -/
  | jmpInd (a : Word)
  /-- `$6D`: ADC absolute, R186. -/
  | adcAbs (a : Word)
  /-- `$6E`: ROR absolute, R214. -/
  | rorAbs (a : Word)
  /-- `$70`: BVS relative, R234. -/
  | bvs (d : Byte)
  /-- `$71`: ADC (zp),Y, R186. -/
  | adcIndy (b : Byte)
  /-- `$75`: ADC zero page,X, R186. -/
  | adcZpx (b : Byte)
  /-- `$76`: ROR zero page,X, R214. -/
  | rorZpx (b : Byte)
  /-- `$78`: SEI implied, R254. -/
  | sei
  /-- `$79`: ADC absolute,Y, R186. -/
  | adcAbsy (a : Word)
  /-- `$7D`: ADC absolute,X, R186. -/
  | adcAbsx (a : Word)
  /-- `$7E`: ROR absolute,X, R214. -/
  | rorAbsx (a : Word)
  /-- `$81`: STA (zp,X), R164. -/
  | staIndx (b : Byte)
  /-- `$84`: STY zero page, R166. -/
  | styZp (b : Byte)
  /-- `$85`: STA zero page, R164. -/
  | staZp (b : Byte)
  /-- `$86`: STX zero page, R165. -/
  | stxZp (b : Byte)
  /-- `$88`: DEY implied, R220. -/
  | dey
  /-- `$8A`: TXA implied, R173. -/
  | txa
  /-- `$8C`: STY absolute, R166. -/
  | styAbs (a : Word)
  /-- `$8D`: STA absolute, R164. -/
  | staAbs (a : Word)
  /-- `$8E`: STX absolute, R165. -/
  | stxAbs (a : Word)
  /-- `$90`: BCC relative, R235. -/
  | bcc (d : Byte)
  /-- `$91`: STA (zp),Y, R164. -/
  | staIndy (b : Byte)
  /-- `$94`: STY zero page,X, R166. -/
  | styZpx (b : Byte)
  /-- `$95`: STA zero page,X, R164. -/
  | staZpx (b : Byte)
  /-- `$96`: STX zero page,Y, R165. -/
  | stxZpy (b : Byte)
  /-- `$98`: TYA implied, R174. -/
  | tya
  /-- `$99`: STA absolute,Y, R164. -/
  | staAbsy (a : Word)
  /-- `$9A`: TXS implied, R176. -/
  | txs
  /-- `$9D`: STA absolute,X, R164. -/
  | staAbsx (a : Word)
  /-- `$A0`: LDY immediate, R163. -/
  | ldyImm (v : Byte)
  /-- `$A1`: LDA (zp,X), R161. -/
  | ldaIndx (b : Byte)
  /-- `$A2`: LDX immediate, R162. -/
  | ldxImm (v : Byte)
  /-- `$A4`: LDY zero page, R163. -/
  | ldyZp (b : Byte)
  /-- `$A5`: LDA zero page, R161. -/
  | ldaZp (b : Byte)
  /-- `$A6`: LDX zero page, R162. -/
  | ldxZp (b : Byte)
  /-- `$A8`: TAY implied, R172. -/
  | tay
  /-- `$A9`: LDA immediate, R161. -/
  | ldaImm (v : Byte)
  /-- `$AA`: TAX implied, R171. -/
  | tax
  /-- `$AC`: LDY absolute, R163. -/
  | ldyAbs (a : Word)
  /-- `$AD`: LDA absolute, R161. -/
  | ldaAbs (a : Word)
  /-- `$AE`: LDX absolute, R162. -/
  | ldxAbs (a : Word)
  /-- `$B0`: BCS relative, R236. -/
  | bcs (d : Byte)
  /-- `$B1`: LDA (zp),Y, R161. -/
  | ldaIndy (b : Byte)
  /-- `$B4`: LDY zero page,X, R163. -/
  | ldyZpx (b : Byte)
  /-- `$B5`: LDA zero page,X, R161. -/
  | ldaZpx (b : Byte)
  /-- `$B6`: LDX zero page,Y, R162. -/
  | ldxZpy (b : Byte)
  /-- `$B8`: CLV implied, R257. -/
  | clv
  /-- `$B9`: LDA absolute,Y, R161. -/
  | ldaAbsy (a : Word)
  /-- `$BA`: TSX implied, R175. -/
  | tsx
  /-- `$BC`: LDY absolute,X, R163. -/
  | ldyAbsx (a : Word)
  /-- `$BD`: LDA absolute,X, R161. -/
  | ldaAbsx (a : Word)
  /-- `$BE`: LDX absolute,Y, R162. -/
  | ldxAbsy (a : Word)
  /-- `$C0`: CPY immediate, R192. -/
  | cpyImm (v : Byte)
  /-- `$C1`: CMP (zp,X), R190. -/
  | cmpIndx (b : Byte)
  /-- `$C4`: CPY zero page, R192. -/
  | cpyZp (b : Byte)
  /-- `$C5`: CMP zero page, R190. -/
  | cmpZp (b : Byte)
  /-- `$C6`: DEC zero page, R216. -/
  | decZp (b : Byte)
  /-- `$C8`: INY implied, R218. -/
  | iny
  /-- `$C9`: CMP immediate, R190. -/
  | cmpImm (v : Byte)
  /-- `$CA`: DEX implied, R219. -/
  | dex
  /-- `$CC`: CPY absolute, R192. -/
  | cpyAbs (a : Word)
  /-- `$CD`: CMP absolute, R190. -/
  | cmpAbs (a : Word)
  /-- `$CE`: DEC absolute, R216. -/
  | decAbs (a : Word)
  /-- `$D0`: BNE relative, R237. -/
  | bne (d : Byte)
  /-- `$D1`: CMP (zp),Y, R190. -/
  | cmpIndy (b : Byte)
  /-- `$D5`: CMP zero page,X, R190. -/
  | cmpZpx (b : Byte)
  /-- `$D6`: DEC zero page,X, R216. -/
  | decZpx (b : Byte)
  /-- `$D8`: CLD implied, R255. -/
  | cld
  /-- `$D9`: CMP absolute,Y, R190. -/
  | cmpAbsy (a : Word)
  /-- `$DD`: CMP absolute,X, R190. -/
  | cmpAbsx (a : Word)
  /-- `$DE`: DEC absolute,X, R216. -/
  | decAbsx (a : Word)
  /-- `$E0`: CPX immediate, R191. -/
  | cpxImm (v : Byte)
  /-- `$E1`: SBC (zp,X), R188. -/
  | sbcIndx (b : Byte)
  /-- `$E4`: CPX zero page, R191. -/
  | cpxZp (b : Byte)
  /-- `$E5`: SBC zero page, R188. -/
  | sbcZp (b : Byte)
  /-- `$E6`: INC zero page, R215. -/
  | incZp (b : Byte)
  /-- `$E8`: INX implied, R217. -/
  | inx
  /-- `$E9`: SBC immediate, R188. -/
  | sbcImm (v : Byte)
  /-- `$EA`: NOP implied, R260. -/
  | nop
  /-- `$EC`: CPX absolute, R191. -/
  | cpxAbs (a : Word)
  /-- `$ED`: SBC absolute, R188. -/
  | sbcAbs (a : Word)
  /-- `$EE`: INC absolute, R215. -/
  | incAbs (a : Word)
  /-- `$F0`: BEQ relative, R238. -/
  | beq (d : Byte)
  /-- `$F1`: SBC (zp),Y, R188. -/
  | sbcIndy (b : Byte)
  /-- `$F5`: SBC zero page,X, R188. -/
  | sbcZpx (b : Byte)
  /-- `$F6`: INC zero page,X, R215. -/
  | incZpx (b : Byte)
  /-- `$F8`: SED implied, R256. -/
  | sed
  /-- `$F9`: SBC absolute,Y, R188. -/
  | sbcAbsy (a : Word)
  /-- `$FD`: SBC absolute,X, R188. -/
  | sbcAbsx (a : Word)
  /-- `$FE`: INC absolute,X, R215. -/
  | incAbsx (a : Word)
  /-- `$02`: undocumented, R150. -/
  | undoc02
  /-- `$03`: undocumented, R150. -/
  | undoc03
  /-- `$04`: undocumented, R150. -/
  | undoc04
  /-- `$07`: undocumented, R150. -/
  | undoc07
  /-- `$0B`: undocumented, R150. -/
  | undoc0B
  /-- `$0C`: undocumented, R150. -/
  | undoc0C
  /-- `$0F`: undocumented, R150. -/
  | undoc0F
  /-- `$12`: undocumented, R150. -/
  | undoc12
  /-- `$13`: undocumented, R150. -/
  | undoc13
  /-- `$14`: undocumented, R150. -/
  | undoc14
  /-- `$17`: undocumented, R150. -/
  | undoc17
  /-- `$1A`: undocumented, R150. -/
  | undoc1A
  /-- `$1B`: undocumented, R150. -/
  | undoc1B
  /-- `$1C`: undocumented, R150. -/
  | undoc1C
  /-- `$1F`: undocumented, R150. -/
  | undoc1F
  /-- `$22`: undocumented, R150. -/
  | undoc22
  /-- `$23`: undocumented, R150. -/
  | undoc23
  /-- `$27`: undocumented, R150. -/
  | undoc27
  /-- `$2B`: undocumented, R150. -/
  | undoc2B
  /-- `$2F`: undocumented, R150. -/
  | undoc2F
  /-- `$32`: undocumented, R150. -/
  | undoc32
  /-- `$33`: undocumented, R150. -/
  | undoc33
  /-- `$34`: undocumented, R150. -/
  | undoc34
  /-- `$37`: undocumented, R150. -/
  | undoc37
  /-- `$3A`: undocumented, R150. -/
  | undoc3A
  /-- `$3B`: undocumented, R150. -/
  | undoc3B
  /-- `$3C`: undocumented, R150. -/
  | undoc3C
  /-- `$3F`: undocumented, R150. -/
  | undoc3F
  /-- `$42`: undocumented, R150. -/
  | undoc42
  /-- `$43`: undocumented, R150. -/
  | undoc43
  /-- `$44`: undocumented, R150. -/
  | undoc44
  /-- `$47`: undocumented, R150. -/
  | undoc47
  /-- `$4B`: undocumented, R150. -/
  | undoc4B
  /-- `$4F`: undocumented, R150. -/
  | undoc4F
  /-- `$52`: undocumented, R150. -/
  | undoc52
  /-- `$53`: undocumented, R150. -/
  | undoc53
  /-- `$54`: undocumented, R150. -/
  | undoc54
  /-- `$57`: undocumented, R150. -/
  | undoc57
  /-- `$5A`: undocumented, R150. -/
  | undoc5A
  /-- `$5B`: undocumented, R150. -/
  | undoc5B
  /-- `$5C`: undocumented, R150. -/
  | undoc5C
  /-- `$5F`: undocumented, R150. -/
  | undoc5F
  /-- `$62`: undocumented, R150. -/
  | undoc62
  /-- `$63`: undocumented, R150. -/
  | undoc63
  /-- `$64`: undocumented, R150. -/
  | undoc64
  /-- `$67`: undocumented, R150. -/
  | undoc67
  /-- `$6B`: undocumented, R150. -/
  | undoc6B
  /-- `$6F`: undocumented, R150. -/
  | undoc6F
  /-- `$72`: undocumented, R150. -/
  | undoc72
  /-- `$73`: undocumented, R150. -/
  | undoc73
  /-- `$74`: undocumented, R150. -/
  | undoc74
  /-- `$77`: undocumented, R150. -/
  | undoc77
  /-- `$7A`: undocumented, R150. -/
  | undoc7A
  /-- `$7B`: undocumented, R150. -/
  | undoc7B
  /-- `$7C`: undocumented, R150. -/
  | undoc7C
  /-- `$7F`: undocumented, R150. -/
  | undoc7F
  /-- `$80`: undocumented, R150. -/
  | undoc80
  /-- `$82`: undocumented, R150. -/
  | undoc82
  /-- `$83`: undocumented, R150. -/
  | undoc83
  /-- `$87`: undocumented, R150. -/
  | undoc87
  /-- `$89`: undocumented, R150. -/
  | undoc89
  /-- `$8B`: undocumented, R150. -/
  | undoc8B
  /-- `$8F`: undocumented, R150. -/
  | undoc8F
  /-- `$92`: undocumented, R150. -/
  | undoc92
  /-- `$93`: undocumented, R150. -/
  | undoc93
  /-- `$97`: undocumented, R150. -/
  | undoc97
  /-- `$9B`: undocumented, R150. -/
  | undoc9B
  /-- `$9C`: undocumented, R150. -/
  | undoc9C
  /-- `$9E`: undocumented, R150. -/
  | undoc9E
  /-- `$9F`: undocumented, R150. -/
  | undoc9F
  /-- `$A3`: undocumented, R150. -/
  | undocA3
  /-- `$A7`: undocumented, R150. -/
  | undocA7
  /-- `$AB`: undocumented, R150. -/
  | undocAB
  /-- `$AF`: undocumented, R150. -/
  | undocAF
  /-- `$B2`: undocumented, R150. -/
  | undocB2
  /-- `$B3`: undocumented, R150. -/
  | undocB3
  /-- `$B7`: undocumented, R150. -/
  | undocB7
  /-- `$BB`: undocumented, R150. -/
  | undocBB
  /-- `$BF`: undocumented, R150. -/
  | undocBF
  /-- `$C2`: undocumented, R150. -/
  | undocC2
  /-- `$C3`: undocumented, R150. -/
  | undocC3
  /-- `$C7`: undocumented, R150. -/
  | undocC7
  /-- `$CB`: undocumented, R150. -/
  | undocCB
  /-- `$CF`: undocumented, R150. -/
  | undocCF
  /-- `$D2`: undocumented, R150. -/
  | undocD2
  /-- `$D3`: undocumented, R150. -/
  | undocD3
  /-- `$D4`: undocumented, R150. -/
  | undocD4
  /-- `$D7`: undocumented, R150. -/
  | undocD7
  /-- `$DA`: undocumented, R150. -/
  | undocDA
  /-- `$DB`: undocumented, R150. -/
  | undocDB
  /-- `$DC`: undocumented, R150. -/
  | undocDC
  /-- `$DF`: undocumented, R150. -/
  | undocDF
  /-- `$E2`: undocumented, R150. -/
  | undocE2
  /-- `$E3`: undocumented, R150. -/
  | undocE3
  /-- `$E7`: undocumented, R150. -/
  | undocE7
  /-- `$EB`: undocumented, R150. -/
  | undocEB
  /-- `$EF`: undocumented, R150. -/
  | undocEF
  /-- `$F2`: undocumented, R150. -/
  | undocF2
  /-- `$F3`: undocumented, R150. -/
  | undocF3
  /-- `$F4`: undocumented, R150. -/
  | undocF4
  /-- `$F7`: undocumented, R150. -/
  | undocF7
  /-- `$FA`: undocumented, R150. -/
  | undocFA
  /-- `$FB`: undocumented, R150. -/
  | undocFB
  /-- `$FC`: undocumented, R150. -/
  | undocFC
  /-- `$FF`: undocumented, R150. -/
  | undocFF
  deriving DecidableEq, Repr

end Sys2Proof
end

