-- ==== Sys2Proof/Decode.lean ====
section
/-! DEFINITION. Decoding bytes to instructions, total and rejecting by name, and the encoder (30_encoding.md R120, R121,
R140, R141, R151). -/

namespace Sys2Proof

/-- A row of the opcode table: an instruction of format F1, F2 or F3 (R120), with what its operand bytes make of it. -/
inductive OpcodeRow where
  | f1 (i : Instr)
  | f2 (f : Byte → Instr)
  | f3 (f : Word → Instr)

/-- Opcodes `$00` to `$0F` (R140). -/
def opcodeRow0 : List OpcodeRow :=
  [.f1 .brk, .f2 .oraIndx, .f1 .undoc02, .f1 .undoc03,
   .f1 .undoc04, .f2 .oraZp, .f2 .aslZp, .f1 .undoc07,
   .f1 .php, .f2 .oraImm, .f1 .aslAcc, .f1 .undoc0B,
   .f1 .undoc0C, .f3 .oraAbs, .f3 .aslAbs, .f1 .undoc0F]

/-- Opcodes `$10` to `$1F` (R140). -/
def opcodeRow1 : List OpcodeRow :=
  [.f2 .bpl, .f2 .oraIndy, .f1 .undoc12, .f1 .undoc13,
   .f1 .undoc14, .f2 .oraZpx, .f2 .aslZpx, .f1 .undoc17,
   .f1 .clc, .f3 .oraAbsy, .f1 .undoc1A, .f1 .undoc1B,
   .f1 .undoc1C, .f3 .oraAbsx, .f3 .aslAbsx, .f1 .undoc1F]

/-- Opcodes `$20` to `$2F` (R140). -/
def opcodeRow2 : List OpcodeRow :=
  [.f3 .jsr, .f2 .andIndx, .f1 .undoc22, .f1 .undoc23,
   .f2 .bitZp, .f2 .andZp, .f2 .rolZp, .f1 .undoc27,
   .f1 .plp, .f2 .andImm, .f1 .rolAcc, .f1 .undoc2B,
   .f3 .bitAbs, .f3 .andAbs, .f3 .rolAbs, .f1 .undoc2F]

/-- Opcodes `$30` to `$3F` (R140). -/
def opcodeRow3 : List OpcodeRow :=
  [.f2 .bmi, .f2 .andIndy, .f1 .undoc32, .f1 .undoc33,
   .f1 .undoc34, .f2 .andZpx, .f2 .rolZpx, .f1 .undoc37,
   .f1 .sec, .f3 .andAbsy, .f1 .undoc3A, .f1 .undoc3B,
   .f1 .undoc3C, .f3 .andAbsx, .f3 .rolAbsx, .f1 .undoc3F]

/-- Opcodes `$40` to `$4F` (R140). -/
def opcodeRow4 : List OpcodeRow :=
  [.f1 .rti, .f2 .eorIndx, .f1 .undoc42, .f1 .undoc43,
   .f1 .undoc44, .f2 .eorZp, .f2 .lsrZp, .f1 .undoc47,
   .f1 .pha, .f2 .eorImm, .f1 .lsrAcc, .f1 .undoc4B,
   .f3 .jmpAbs, .f3 .eorAbs, .f3 .lsrAbs, .f1 .undoc4F]

/-- Opcodes `$50` to `$5F` (R140). -/
def opcodeRow5 : List OpcodeRow :=
  [.f2 .bvc, .f2 .eorIndy, .f1 .undoc52, .f1 .undoc53,
   .f1 .undoc54, .f2 .eorZpx, .f2 .lsrZpx, .f1 .undoc57,
   .f1 .cli, .f3 .eorAbsy, .f1 .undoc5A, .f1 .undoc5B,
   .f1 .undoc5C, .f3 .eorAbsx, .f3 .lsrAbsx, .f1 .undoc5F]

/-- Opcodes `$60` to `$6F` (R140). -/
def opcodeRow6 : List OpcodeRow :=
  [.f1 .rts, .f2 .adcIndx, .f1 .undoc62, .f1 .undoc63,
   .f1 .undoc64, .f2 .adcZp, .f2 .rorZp, .f1 .undoc67,
   .f1 .pla, .f2 .adcImm, .f1 .rorAcc, .f1 .undoc6B,
   .f3 .jmpInd, .f3 .adcAbs, .f3 .rorAbs, .f1 .undoc6F]

/-- Opcodes `$70` to `$7F` (R140). -/
def opcodeRow7 : List OpcodeRow :=
  [.f2 .bvs, .f2 .adcIndy, .f1 .undoc72, .f1 .undoc73,
   .f1 .undoc74, .f2 .adcZpx, .f2 .rorZpx, .f1 .undoc77,
   .f1 .sei, .f3 .adcAbsy, .f1 .undoc7A, .f1 .undoc7B,
   .f1 .undoc7C, .f3 .adcAbsx, .f3 .rorAbsx, .f1 .undoc7F]

/-- Opcodes `$80` to `$8F` (R140). -/
def opcodeRow8 : List OpcodeRow :=
  [.f1 .undoc80, .f2 .staIndx, .f1 .undoc82, .f1 .undoc83,
   .f2 .styZp, .f2 .staZp, .f2 .stxZp, .f1 .undoc87,
   .f1 .dey, .f1 .undoc89, .f1 .txa, .f1 .undoc8B,
   .f3 .styAbs, .f3 .staAbs, .f3 .stxAbs, .f1 .undoc8F]

/-- Opcodes `$90` to `$9F` (R140). -/
def opcodeRow9 : List OpcodeRow :=
  [.f2 .bcc, .f2 .staIndy, .f1 .undoc92, .f1 .undoc93,
   .f2 .styZpx, .f2 .staZpx, .f2 .stxZpy, .f1 .undoc97,
   .f1 .tya, .f3 .staAbsy, .f1 .txs, .f1 .undoc9B,
   .f1 .undoc9C, .f3 .staAbsx, .f1 .undoc9E, .f1 .undoc9F]

/-- Opcodes `$A0` to `$AF` (R140). -/
def opcodeRowA : List OpcodeRow :=
  [.f2 .ldyImm, .f2 .ldaIndx, .f2 .ldxImm, .f1 .undocA3,
   .f2 .ldyZp, .f2 .ldaZp, .f2 .ldxZp, .f1 .undocA7,
   .f1 .tay, .f2 .ldaImm, .f1 .tax, .f1 .undocAB,
   .f3 .ldyAbs, .f3 .ldaAbs, .f3 .ldxAbs, .f1 .undocAF]

/-- Opcodes `$B0` to `$BF` (R140). -/
def opcodeRowB : List OpcodeRow :=
  [.f2 .bcs, .f2 .ldaIndy, .f1 .undocB2, .f1 .undocB3,
   .f2 .ldyZpx, .f2 .ldaZpx, .f2 .ldxZpy, .f1 .undocB7,
   .f1 .clv, .f3 .ldaAbsy, .f1 .tsx, .f1 .undocBB,
   .f3 .ldyAbsx, .f3 .ldaAbsx, .f3 .ldxAbsy, .f1 .undocBF]

/-- Opcodes `$C0` to `$CF` (R140). -/
def opcodeRowC : List OpcodeRow :=
  [.f2 .cpyImm, .f2 .cmpIndx, .f1 .undocC2, .f1 .undocC3,
   .f2 .cpyZp, .f2 .cmpZp, .f2 .decZp, .f1 .undocC7,
   .f1 .iny, .f2 .cmpImm, .f1 .dex, .f1 .undocCB,
   .f3 .cpyAbs, .f3 .cmpAbs, .f3 .decAbs, .f1 .undocCF]

/-- Opcodes `$D0` to `$DF` (R140). -/
def opcodeRowD : List OpcodeRow :=
  [.f2 .bne, .f2 .cmpIndy, .f1 .undocD2, .f1 .undocD3,
   .f1 .undocD4, .f2 .cmpZpx, .f2 .decZpx, .f1 .undocD7,
   .f1 .cld, .f3 .cmpAbsy, .f1 .undocDA, .f1 .undocDB,
   .f1 .undocDC, .f3 .cmpAbsx, .f3 .decAbsx, .f1 .undocDF]

/-- Opcodes `$E0` to `$EF` (R140). -/
def opcodeRowE : List OpcodeRow :=
  [.f2 .cpxImm, .f2 .sbcIndx, .f1 .undocE2, .f1 .undocE3,
   .f2 .cpxZp, .f2 .sbcZp, .f2 .incZp, .f1 .undocE7,
   .f1 .inx, .f2 .sbcImm, .f1 .nop, .f1 .undocEB,
   .f3 .cpxAbs, .f3 .sbcAbs, .f3 .incAbs, .f1 .undocEF]

/-- Opcodes `$F0` to `$FF` (R140). -/
def opcodeRowF : List OpcodeRow :=
  [.f2 .beq, .f2 .sbcIndy, .f1 .undocF2, .f1 .undocF3,
   .f1 .undocF4, .f2 .sbcZpx, .f2 .incZpx, .f1 .undocF7,
   .f1 .sed, .f3 .sbcAbsy, .f1 .undocFA, .f1 .undocFB,
   .f1 .undocFC, .f3 .sbcAbsx, .f3 .incAbsx, .f1 .undocFF]

/-- The opcode map, indexed by the opcode byte. -/
def opcodeTable : List OpcodeRow :=
  opcodeRow0 ++ (opcodeRow1 ++ (opcodeRow2 ++ (opcodeRow3 ++ (opcodeRow4 ++ (opcodeRow5 ++ (opcodeRow6 ++ (opcodeRow7 ++
  (opcodeRow8 ++ (opcodeRow9 ++ (opcodeRowA ++ (opcodeRowB ++ (opcodeRowC ++ (opcodeRowD ++ (opcodeRowE ++ opcodeRowF))))))))))))))

/-- Every byte has a row (R121, R152). -/
theorem opcodeTable_length : opcodeTable.length = 256 := by
  simp only [opcodeTable, List.length_append]
  rfl

/-- The row of an opcode byte. -/
def rowOf (op : Byte) : OpcodeRow :=
  opcodeTable[op.toNat]'(by rw [opcodeTable_length]; exact op.isLt)

/-- How many operand bytes follow the opcode (R120, R141). BRK's signature byte is not one: its encoding is one byte. -/
def OpcodeRow.operandBytes : OpcodeRow → Nat
  | .f1 _ => 0
  | .f2 _ => 1
  | .f3 _ => 2

/-- The instruction of a row with operand bytes `b1`, `b2`; the 16-bit operand is `{b2, b1}` (R73, R120). -/
def OpcodeRow.instr : OpcodeRow → Byte → Byte → Instr
  | .f1 i, _, _ => i
  | .f2 f, b1, _ => f b1
  | .f3 f, b1, b2 => f (wordOf b2 b1)

/-- The instruction whose opcode is `op` and whose operand bytes, as many as it has, are `b1` and `b2`. -/
def instrOf (op b1 b2 : Byte) : Instr := (rowOf op).instr b1 b2

/-- Why bytes are not an instruction. Every opcode byte has a row, so only missing bytes are refused. -/
inductive DecodeError where
  /-- No opcode byte. -/
  | noBytes
  /-- The opcode's operand bytes are missing. -/
  | missingOperand (opcode : Byte)
  deriving DecidableEq, Repr

/-- The first instruction of a byte sequence at increasing addresses, and the bytes after it (R120, R121). -/
def decode : List Byte → Except DecodeError (Instr × List Byte)
  | [] => .error .noBytes
  | op :: rest =>
    match rowOf op, rest with
    | .f1 i, rest => .ok (i, rest)
    | .f2 f, b1 :: rest => .ok (f b1, rest)
    | .f3 f, b1 :: b2 :: rest => .ok (f (wordOf b2 b1), rest)
    | .f2 _, [] => .error (.missingOperand op)
    | .f3 _, [] => .error (.missingOperand op)
    | .f3 _, [_] => .error (.missingOperand op)

/-- The bytes of an instruction in F3 form: opcode, low operand byte, high operand byte (R120). -/
def threeBytes (op : Byte) (a : Word) : List Byte := [op, lowByte a, highByte a]

/-- The bytes of an instruction, at increasing addresses (R120, R140, R151). -/
def encode : Instr → List Byte
  | .brk => [0x00]
  | .oraIndx b => [0x01, b]
  | .oraZp b => [0x05, b]
  | .aslZp b => [0x06, b]
  | .php => [0x08]
  | .oraImm v => [0x09, v]
  | .aslAcc => [0x0A]
  | .oraAbs a => threeBytes 0x0D a
  | .aslAbs a => threeBytes 0x0E a
  | .bpl d => [0x10, d]
  | .oraIndy b => [0x11, b]
  | .oraZpx b => [0x15, b]
  | .aslZpx b => [0x16, b]
  | .clc => [0x18]
  | .oraAbsy a => threeBytes 0x19 a
  | .oraAbsx a => threeBytes 0x1D a
  | .aslAbsx a => threeBytes 0x1E a
  | .jsr a => threeBytes 0x20 a
  | .andIndx b => [0x21, b]
  | .bitZp b => [0x24, b]
  | .andZp b => [0x25, b]
  | .rolZp b => [0x26, b]
  | .plp => [0x28]
  | .andImm v => [0x29, v]
  | .rolAcc => [0x2A]
  | .bitAbs a => threeBytes 0x2C a
  | .andAbs a => threeBytes 0x2D a
  | .rolAbs a => threeBytes 0x2E a
  | .bmi d => [0x30, d]
  | .andIndy b => [0x31, b]
  | .andZpx b => [0x35, b]
  | .rolZpx b => [0x36, b]
  | .sec => [0x38]
  | .andAbsy a => threeBytes 0x39 a
  | .andAbsx a => threeBytes 0x3D a
  | .rolAbsx a => threeBytes 0x3E a
  | .rti => [0x40]
  | .eorIndx b => [0x41, b]
  | .eorZp b => [0x45, b]
  | .lsrZp b => [0x46, b]
  | .pha => [0x48]
  | .eorImm v => [0x49, v]
  | .lsrAcc => [0x4A]
  | .jmpAbs a => threeBytes 0x4C a
  | .eorAbs a => threeBytes 0x4D a
  | .lsrAbs a => threeBytes 0x4E a
  | .bvc d => [0x50, d]
  | .eorIndy b => [0x51, b]
  | .eorZpx b => [0x55, b]
  | .lsrZpx b => [0x56, b]
  | .cli => [0x58]
  | .eorAbsy a => threeBytes 0x59 a
  | .eorAbsx a => threeBytes 0x5D a
  | .lsrAbsx a => threeBytes 0x5E a
  | .rts => [0x60]
  | .adcIndx b => [0x61, b]
  | .adcZp b => [0x65, b]
  | .rorZp b => [0x66, b]
  | .pla => [0x68]
  | .adcImm v => [0x69, v]
  | .rorAcc => [0x6A]
  | .jmpInd a => threeBytes 0x6C a
  | .adcAbs a => threeBytes 0x6D a
  | .rorAbs a => threeBytes 0x6E a
  | .bvs d => [0x70, d]
  | .adcIndy b => [0x71, b]
  | .adcZpx b => [0x75, b]
  | .rorZpx b => [0x76, b]
  | .sei => [0x78]
  | .adcAbsy a => threeBytes 0x79 a
  | .adcAbsx a => threeBytes 0x7D a
  | .rorAbsx a => threeBytes 0x7E a
  | .staIndx b => [0x81, b]
  | .styZp b => [0x84, b]
  | .staZp b => [0x85, b]
  | .stxZp b => [0x86, b]
  | .dey => [0x88]
  | .txa => [0x8A]
  | .styAbs a => threeBytes 0x8C a
  | .staAbs a => threeBytes 0x8D a
  | .stxAbs a => threeBytes 0x8E a
  | .bcc d => [0x90, d]
  | .staIndy b => [0x91, b]
  | .styZpx b => [0x94, b]
  | .staZpx b => [0x95, b]
  | .stxZpy b => [0x96, b]
  | .tya => [0x98]
  | .staAbsy a => threeBytes 0x99 a
  | .txs => [0x9A]
  | .staAbsx a => threeBytes 0x9D a
  | .ldyImm v => [0xA0, v]
  | .ldaIndx b => [0xA1, b]
  | .ldxImm v => [0xA2, v]
  | .ldyZp b => [0xA4, b]
  | .ldaZp b => [0xA5, b]
  | .ldxZp b => [0xA6, b]
  | .tay => [0xA8]
  | .ldaImm v => [0xA9, v]
  | .tax => [0xAA]
  | .ldyAbs a => threeBytes 0xAC a
  | .ldaAbs a => threeBytes 0xAD a
  | .ldxAbs a => threeBytes 0xAE a
  | .bcs d => [0xB0, d]
  | .ldaIndy b => [0xB1, b]
  | .ldyZpx b => [0xB4, b]
  | .ldaZpx b => [0xB5, b]
  | .ldxZpy b => [0xB6, b]
  | .clv => [0xB8]
  | .ldaAbsy a => threeBytes 0xB9 a
  | .tsx => [0xBA]
  | .ldyAbsx a => threeBytes 0xBC a
  | .ldaAbsx a => threeBytes 0xBD a
  | .ldxAbsy a => threeBytes 0xBE a
  | .cpyImm v => [0xC0, v]
  | .cmpIndx b => [0xC1, b]
  | .cpyZp b => [0xC4, b]
  | .cmpZp b => [0xC5, b]
  | .decZp b => [0xC6, b]
  | .iny => [0xC8]
  | .cmpImm v => [0xC9, v]
  | .dex => [0xCA]
  | .cpyAbs a => threeBytes 0xCC a
  | .cmpAbs a => threeBytes 0xCD a
  | .decAbs a => threeBytes 0xCE a
  | .bne d => [0xD0, d]
  | .cmpIndy b => [0xD1, b]
  | .cmpZpx b => [0xD5, b]
  | .decZpx b => [0xD6, b]
  | .cld => [0xD8]
  | .cmpAbsy a => threeBytes 0xD9 a
  | .cmpAbsx a => threeBytes 0xDD a
  | .decAbsx a => threeBytes 0xDE a
  | .cpxImm v => [0xE0, v]
  | .sbcIndx b => [0xE1, b]
  | .cpxZp b => [0xE4, b]
  | .sbcZp b => [0xE5, b]
  | .incZp b => [0xE6, b]
  | .inx => [0xE8]
  | .sbcImm v => [0xE9, v]
  | .nop => [0xEA]
  | .cpxAbs a => threeBytes 0xEC a
  | .sbcAbs a => threeBytes 0xED a
  | .incAbs a => threeBytes 0xEE a
  | .beq d => [0xF0, d]
  | .sbcIndy b => [0xF1, b]
  | .sbcZpx b => [0xF5, b]
  | .incZpx b => [0xF6, b]
  | .sed => [0xF8]
  | .sbcAbsy a => threeBytes 0xF9 a
  | .sbcAbsx a => threeBytes 0xFD a
  | .incAbsx a => threeBytes 0xFE a
  | .undoc02 => [0x02]
  | .undoc03 => [0x03]
  | .undoc04 => [0x04]
  | .undoc07 => [0x07]
  | .undoc0B => [0x0B]
  | .undoc0C => [0x0C]
  | .undoc0F => [0x0F]
  | .undoc12 => [0x12]
  | .undoc13 => [0x13]
  | .undoc14 => [0x14]
  | .undoc17 => [0x17]
  | .undoc1A => [0x1A]
  | .undoc1B => [0x1B]
  | .undoc1C => [0x1C]
  | .undoc1F => [0x1F]
  | .undoc22 => [0x22]
  | .undoc23 => [0x23]
  | .undoc27 => [0x27]
  | .undoc2B => [0x2B]
  | .undoc2F => [0x2F]
  | .undoc32 => [0x32]
  | .undoc33 => [0x33]
  | .undoc34 => [0x34]
  | .undoc37 => [0x37]
  | .undoc3A => [0x3A]
  | .undoc3B => [0x3B]
  | .undoc3C => [0x3C]
  | .undoc3F => [0x3F]
  | .undoc42 => [0x42]
  | .undoc43 => [0x43]
  | .undoc44 => [0x44]
  | .undoc47 => [0x47]
  | .undoc4B => [0x4B]
  | .undoc4F => [0x4F]
  | .undoc52 => [0x52]
  | .undoc53 => [0x53]
  | .undoc54 => [0x54]
  | .undoc57 => [0x57]
  | .undoc5A => [0x5A]
  | .undoc5B => [0x5B]
  | .undoc5C => [0x5C]
  | .undoc5F => [0x5F]
  | .undoc62 => [0x62]
  | .undoc63 => [0x63]
  | .undoc64 => [0x64]
  | .undoc67 => [0x67]
  | .undoc6B => [0x6B]
  | .undoc6F => [0x6F]
  | .undoc72 => [0x72]
  | .undoc73 => [0x73]
  | .undoc74 => [0x74]
  | .undoc77 => [0x77]
  | .undoc7A => [0x7A]
  | .undoc7B => [0x7B]
  | .undoc7C => [0x7C]
  | .undoc7F => [0x7F]
  | .undoc80 => [0x80]
  | .undoc82 => [0x82]
  | .undoc83 => [0x83]
  | .undoc87 => [0x87]
  | .undoc89 => [0x89]
  | .undoc8B => [0x8B]
  | .undoc8F => [0x8F]
  | .undoc92 => [0x92]
  | .undoc93 => [0x93]
  | .undoc97 => [0x97]
  | .undoc9B => [0x9B]
  | .undoc9C => [0x9C]
  | .undoc9E => [0x9E]
  | .undoc9F => [0x9F]
  | .undocA3 => [0xA3]
  | .undocA7 => [0xA7]
  | .undocAB => [0xAB]
  | .undocAF => [0xAF]
  | .undocB2 => [0xB2]
  | .undocB3 => [0xB3]
  | .undocB7 => [0xB7]
  | .undocBB => [0xBB]
  | .undocBF => [0xBF]
  | .undocC2 => [0xC2]
  | .undocC3 => [0xC3]
  | .undocC7 => [0xC7]
  | .undocCB => [0xCB]
  | .undocCF => [0xCF]
  | .undocD2 => [0xD2]
  | .undocD3 => [0xD3]
  | .undocD4 => [0xD4]
  | .undocD7 => [0xD7]
  | .undocDA => [0xDA]
  | .undocDB => [0xDB]
  | .undocDC => [0xDC]
  | .undocDF => [0xDF]
  | .undocE2 => [0xE2]
  | .undocE3 => [0xE3]
  | .undocE7 => [0xE7]
  | .undocEB => [0xEB]
  | .undocEF => [0xEF]
  | .undocF2 => [0xF2]
  | .undocF3 => [0xF3]
  | .undocF4 => [0xF4]
  | .undocF7 => [0xF7]
  | .undocFA => [0xFA]
  | .undocFB => [0xFB]
  | .undocFC => [0xFC]
  | .undocFF => [0xFF]

/-- The `n` low bytes of a number, lowest first. -/
def bytesOf (n w : Nat) : List Byte :=
  match n with
  | 0 => []
  | n + 1 => BitVec.ofNat 8 w :: bytesOf n (w / 256)

/-- The three bytes that lie at increasing addresses for an instruction whose table bits are `w`, `nbits` of them: bit 0
of the number is bit 0 of the opcode byte (R120), every bit above `nbits` is 0 (notes/assumptions/23.md). -/
def tableBytes (nbits w : Nat) : List Byte := bytesOf 3 (w % 2 ^ nbits)

/-- The instruction the decoder reads from an instruction whose bits are `w` as spec/opcode_table.json numbers them. -/
def decodeTableWord (nbits w : Nat) : Option Instr :=
  match decode (tableBytes nbits w) with
  | .ok r => some r.1
  | .error _ => none

end Sys2Proof
end

