-- ==== Sys2Proof/Config.lean ====
section
/-! DEFINITION. The parameters of 00_scope.md R7 as plain data, the OPEN power-on values, and the free values.
A parameter is fixed at power-on and never changes; the machine carries them in a field no step writes
(notes/assumptions/2.md), so a statement about every state holds for every choice of them. -/

namespace Sys2Proof

/-- One sample of the external inputs (R441): the pin levels of RIOT ports A and B and of the six TIA input pins. -/
structure Inputs where
  pa  : Byte
  pb  : Byte
  in0 : Bool
  in1 : Bool
  in2 : Bool
  in3 : Bool
  in4 : Bool
  in5 : Bool
  deriving DecidableEq, Repr, Inhabited

/-- `UNIMPL_POLICY` (R7, R401): what the caller does on `UnimplementedOpcode`. -/
inductive UnimplPolicy where
  | fatal
  | skip
  deriving DecidableEq, Repr

/-- `DECIMAL_FLAGS` (R7, R187, R189): how N, V, Z are computed by ADC and SBC when D = 1. -/
inductive DecimalFlags where
  | nmos
  | any
  deriving DecidableEq, Repr

/-- `RIOT_TICKS_PER_ADVANCE` in {1, 3} (R7, R451). -/
inductive RiotRate where
  | perCpuCycle
  | perColorClock
  deriving DecidableEq, Repr

/-- The eight delayed TIA registers (R46, R460). -/
inductive DelayedReg where
  | pf0 | pf1 | pf2 | grp0 | grp1 | enam0 | enam1 | enabl
  deriving DecidableEq, Repr

/-- `FUTURE_PIXELS[r]` for each delayed register (R7, R460). -/
structure FuturePixels where
  pf0   : Nat
  pf1   : Nat
  pf2   : Nat
  grp0  : Nat
  grp1  : Nat
  enam0 : Nat
  enam1 : Nat
  enabl : Nat
  deriving DecidableEq, Repr

/-- The delay of one register. -/
def FuturePixels.of (f : FuturePixels) : DelayedReg → Nat
  | .pf0 => f.pf0
  | .pf1 => f.pf1
  | .pf2 => f.pf2
  | .grp0 => f.grp0
  | .grp1 => f.grp1
  | .enam0 => f.enam0
  | .enam1 => f.enam1
  | .enabl => f.enabl

/-- Parameters of the generic hot-range scheme (R79): `nb` banks of 4096 bytes, hot offsets `hLo..hHi`,
`ramSize` bytes of extra RAM with write port at offset 0 and read port at offset `ramSize`. -/
structure HotScheme where
  nb      : Nat
  hLo     : Nat
  hHi     : Nat
  ramSize : Nat
  deriving DecidableEq, Repr

/-- The nine values of the scheme parameter `SCHEME` (R7, R99). -/
inductive SchemeTag where
  | default | singleBank | f4 | fe | e | super | pb | mnet | cbs
  deriving DecidableEq, Repr

/-- The parameters of R7 that a step reads. -/
structure Config where
  /-- `FUTURE_PIXELS` (R460). -/
  futurePixels : FuturePixels
  /-- `UNIMPL_POLICY` (R401). -/
  unimplPolicy : UnimplPolicy
  /-- `DECIMAL_FLAGS` (R187). -/
  decimalFlags : DecimalFlags
  /-- `RIOT_TICKS_PER_ADVANCE` (R451). -/
  riotRate : RiotRate
  /-- `TIA_READ_LOW_BITS` (R74): a fixed 6-bit value, or `none` for `any`, a free value at every read. -/
  tiaReadLow : Option (BitVec 6)
  /-- `AUDIO_CLOCK_DIV` (R482). -/
  audioClockDiv : Nat
  /-- `PLAYER_RESET_OFFSET` (R464). -/
  playerResetOffset : Nat
  /-- `MISSILE_RESET_OFFSET` (R464). -/
  missileResetOffset : Nat
  /-- `BALL_RESET_OFFSET` (R464). -/
  ballResetOffset : Nat
  /-- `CART_E_PARAMS` (R97). -/
  cartE : HotScheme
  deriving DecidableEq, Repr

/-- The simulation defaults of R7 (R97 for scheme `e`). DESIGN CHOICE (notes/assumptions/2.md), unsafe: R7 leaves
every one of them OPEN and gives the default for simulation only. -/
def Config.simulation : Config where
  futurePixels := ⟨1, 1, 1, 1, 1, 1, 1, 1⟩
  unimplPolicy := .fatal
  decimalFlags := .nmos
  riotRate := .perCpuCycle
  tiaReadLow := some 0
  audioClockDiv := 114
  playerResetOffset := 5
  missileResetOffset := 4
  ballResetOffset := 4
  cartE := ⟨8, 0xFF4, 0xFFB, 128⟩

/-- What R7 fixes of the parameters: every `FUTURE_PIXELS[r]` in 1..9 and an audio divider of at least 1. -/
abbrev Config.Valid (c : Config) : Prop :=
  (1 ≤ c.futurePixels.pf0 ∧ c.futurePixels.pf0 ≤ 9) ∧ (1 ≤ c.futurePixels.pf1 ∧ c.futurePixels.pf1 ≤ 9) ∧
  (1 ≤ c.futurePixels.pf2 ∧ c.futurePixels.pf2 ≤ 9) ∧ (1 ≤ c.futurePixels.grp0 ∧ c.futurePixels.grp0 ≤ 9) ∧
  (1 ≤ c.futurePixels.grp1 ∧ c.futurePixels.grp1 ≤ 9) ∧ (1 ≤ c.futurePixels.enam0 ∧ c.futurePixels.enam0 ≤ 9) ∧
  (1 ≤ c.futurePixels.enam1 ∧ c.futurePixels.enam1 ≤ 9) ∧ (1 ≤ c.futurePixels.enabl ∧ c.futurePixels.enabl ≤ 9) ∧
  1 ≤ c.audioClockDiv

/-- RIOT ticks in one `advance()` (R451). -/
def RiotRate.ticks : RiotRate → Nat
  | .perCpuCycle => 1
  | .perColorClock => 3

/-- The OPEN power-on values (R7, R54): what a machine under construction is given. Memory contents are lists of
(cell, byte) in the canonical form of the model's memories. -/
structure PowerOn where
  a : Byte
  x : Byte
  y : Byte
  s : Byte
  n : Bool
  v : Bool
  d : Bool
  z : Bool
  c : Bool
  /-- `RAM_INIT`. -/
  ram : List (Nat × BitVec 8)
  /-- `CART_RAM_INIT`. -/
  cartRam : List (Nat × BitVec 8)
  /-- `RIOT_TIMER_INIT`. -/
  timer : Byte
  /-- `CART_INIT_BANK` of a generic scheme (R79). -/
  bank : Nat
  /-- `CART_INIT_BANK` of `pb` (R96). -/
  seg0 : Nat
  seg1 : Nat
  seg2 : Nat
  /-- `CART_INIT_BANK` of `mnet` (R98). -/
  mnetLo : Nat
  mnetRp : Nat
  deriving DecidableEq, Repr

/-- The simulation defaults of the power-on values (R7). DESIGN CHOICE (notes/assumptions/3.md and 4.md), unsafe:
the spec says `any` for each of them. -/
def PowerOn.simulation : PowerOn where
  a := 0x00
  x := 0x00
  y := 0x00
  s := 0xFD
  n := false
  v := false
  d := false
  z := false
  c := false
  ram := []
  cartRam := []
  timer := 0x00
  bank := 0
  seg0 := 0
  seg1 := 0
  seg2 := 0
  mnetLo := 0
  mnetRp := 0

/-- `INPUTS(t)` (R441): the sample of the external inputs in call number `t`, nothing known of it
(notes/assumptions/1.md, safe). -/
opaque Config.inputs : Nat → Inputs

/-- The free value: the byte the `k`-th draw gives, nothing known of it (notes/assumptions/8.md, safe). -/
opaque Config.freeByte : Nat → BitVec 8

end Sys2Proof
end

