-- ==== Sys2Proof/Machine/State.lean ====
section
/-! DEFINITION. The state of the machine (10_state.md), the reasons a host operation can fail, the state after reset,
and the updates of one component. Every piece of state of R20 to R51 has a field here; INVENTORY.md lists them. -/

namespace Sys2Proof.Machine

/-- A memory: (cell, byte) pairs, cells strictly rising, no pair whose byte is what an unlisted cell reads as. -/
abbrev Memory := List Host.Cell

/-- CPU registers and flags (R20 to R31). -/
structure Cpu where
  a  : Byte
  x  : Byte
  y  : Byte
  s  : Byte
  pc : Word
  n  : Bool
  v  : Bool
  b  : Bool
  d  : Bool
  i  : Bool
  z  : Bool
  c  : Bool
  deriving DecidableEq, Repr

/-- The pipeline latches between two cycles of one instruction (R32). -/
structure Latches where
  tcyc : Nat
  ir   : Byte
  lo   : Byte
  hi   : Byte
  ptr  : Byte
  dat  : Byte
  fix  : Bool
  deriving DecidableEq, Repr

/-- The instruction boundary: `tcyc = 0`. The other latches are dead there (R32) and the model holds them at 0.
DESIGN CHOICE (notes/assumptions/7.md), safe. -/
def Latches.idle : Latches := ⟨0, 0, 0, 0, 0, 0, false⟩

/-- `UnimplementedOpcode(pc, opcode)` as recorded in `cpu_fault` (R33, R405). -/
structure UnimplementedOpcode where
  pc     : Word
  opcode : Byte
  deriving DecidableEq, Repr

/-- The TIA write registers that act at once and keep a value (R39, R466). A byte holds only the bits the table
keeps, the others are 0 (notes/assumptions/19.md). -/
structure TiaRegs where
  vsync  : Byte
  vblank : Byte
  nusiz0 : Byte
  nusiz1 : Byte
  colup0 : Byte
  colup1 : Byte
  colupf : Byte
  colubk : Byte
  ctrlpf : Byte
  refp0  : Byte
  refp1  : Byte
  audc0  : Byte
  audc1  : Byte
  audf0  : Byte
  audf1  : Byte
  audv0  : Byte
  audv1  : Byte
  hmp0   : Byte
  hmp1   : Byte
  hmm0   : Byte
  hmm1   : Byte
  hmbl   : Byte
  vdelp0 : Byte
  vdelp1 : Byte
  vdelbl : Byte
  resmp0 : Byte
  resmp1 : Byte
  deriving DecidableEq, Repr

/-- The delayed graphics registers and the old and new pattern copies (R39, R43, R461). -/
structure Graphics where
  pf0      : Byte
  pf1      : Byte
  pf2      : Byte
  grp0New  : Byte
  grp0Old  : Byte
  grp1New  : Byte
  grp1Old  : Byte
  enam0    : Bool
  enam1    : Bool
  enablNew : Bool
  enablOld : Bool
  deriving DecidableEq, Repr

/-- Object positions, the x coordinate of the leftmost pixel of the first copy, 0..159 each (R42). -/
structure Positions where
  p0 : Nat
  p1 : Nat
  m0 : Nat
  m1 : Nat
  bl : Nat
  deriving DecidableEq, Repr

/-- The 15 collision latches (R41). -/
structure Collisions where
  m0p1 : Bool
  m0p0 : Bool
  m1p0 : Bool
  m1p1 : Bool
  p0pf : Bool
  p0bl : Bool
  p1pf : Bool
  p1bl : Bool
  m0pf : Bool
  m0bl : Bool
  m1pf : Bool
  m1bl : Bool
  blpf : Bool
  p0p1 : Bool
  m0m1 : Bool
  deriving DecidableEq, Repr

/-- All 15 latches 0 (R41, R463). -/
def Collisions.clear : Collisions :=
  ⟨false, false, false, false, false, false, false, false, false, false, false, false, false, false, false⟩

/-- Audio channel state other than the registers (R45). -/
structure AudioState where
  pre  : Nat
  div0 : Nat
  div1 : Nat
  out0 : Bool
  out1 : Bool
  deriving DecidableEq, Repr

/-- An entry of the future-pixel buffer (R46). -/
structure PendingWrite where
  reg       : DelayedReg
  value     : Byte
  remaining : Nat
  deriving DecidableEq, Repr

/-- TIA state (R38 to R49). `pending` is oldest first. -/
structure Tia where
  hclock     : Nat
  scanline   : Nat
  frame      : Nat
  wsyncHalt  : Bool
  vsyncOn    : Bool
  vblankOn   : Bool
  regs       : TiaRegs
  gfx        : Graphics
  pos        : Positions
  cx         : Collisions
  audio      : AudioState
  pending    : List PendingWrite
  inpt4Latch : Bool
  inpt5Latch : Bool
  deriving DecidableEq, Repr

/-- The timer interval: `shift` one of 0, 3, 6, 10 (R50). -/
inductive Interval where
  | by1 | by8 | by64 | by1024
  deriving DecidableEq, Repr

/-- RIOT state other than RAM (R50). -/
structure Riot where
  timer     : Byte
  shift     : Interval
  prescale  : Nat
  underflow : Bool
  fast      : Bool
  ora       : Byte
  orb       : Byte
  ddra      : Byte
  ddrb      : Byte
  deriving DecidableEq, Repr

/-- A bank-switching variant with its own small state (R85): what `SCHEME` and the ROM size resolve to. -/
inductive Variant where
  /-- R90. -/
  | single
  /-- The generic hot-range scheme (R79). -/
  | hot (p : HotScheme) (bank : Nat)
  /-- R95. -/
  | fe (bank1 armed : Bool)
  /-- R96. -/
  | pb (seg0 seg1 seg2 : Nat)
  /-- R98. -/
  | mnet (lo rp : Nat)
  deriving DecidableEq, Repr

/-- The cartridge (R37): the parameters ROM image, size and scheme tag, the variant's state, and the extra RAM.
The RAM of `mnet` is one memory of 2048 cells: `ram1k[i]` is cell `i`, `ram256[p][i]` cell `1024 + 256 p + i`
(notes/assumptions/15.md). -/
structure Cart where
  tag     : SchemeTag
  romSize : Nat
  rom     : Memory
  variant : Variant
  ram     : Memory
  deriving DecidableEq, Repr

/-- One record to the frame sink (R470). -/
structure PixelOut where
  frame    : Nat
  scanline : Nat
  x        : Nat
  colour   : Byte
  deriving DecidableEq, Repr

/-- One record to the audio sink (R486). -/
structure AudioOut where
  s0 : Byte
  s1 : Byte
  deriving DecidableEq, Repr

/-- The whole machine. -/
structure State where
  /-- R20 to R31. -/
  cpu : Cpu
  /-- R32. -/
  pipe : Latches
  /-- R33. -/
  cpuFault : Option UnimplementedOpcode
  /-- R34. -/
  cycleCounter : Nat
  /-- RIOT RAM, cells 0..127 (R36). -/
  ram : Memory
  /-- R37. -/
  cart : Cart
  /-- R38 to R49. -/
  tia : Tia
  /-- R50. -/
  riot : Riot
  /-- The parameters of R7, never written by a step (notes/assumptions/2.md). -/
  cfg : Config
  /-- The model's own: the samples of `INPUTS(t)` for the coming calls (notes/assumptions/1.md). -/
  inputs : List Inputs
  /-- The model's own: how many free values have been drawn (notes/assumptions/8.md). -/
  draws : Nat
  /-- The model's own: records sent to the frame sink, newest first (R470; notes/assumptions/12.md). -/
  video : List PixelOut
  /-- The model's own: records sent to the audio sink, newest first (R486; notes/assumptions/12.md). -/
  audioOut : List AudioOut
  deriving DecidableEq, Repr

/-- The four named error conditions of R400 (R405: a four-constructor type). No step and no instruction answers one:
an undocumented opcode is recorded in `cpuFault` and the machine has a next state (notes/assumptions/9.md, 20.md). -/
inductive Fault where
  /-- Answered by `runUntil` when the CPU is stuck under `fatal` (R401, R434). Safe: it is the spec's own condition. -/
  | unimplementedOpcode (pc : Word) (opcode : Byte)
  /-- Answered by `loadCartridge` for a ROM size its scheme does not accept (R402). Safe: no machine is built. -/
  | invalidCartridgeImage (scheme : SchemeTag) (romSize : Nat)
  /-- Answered by `restore` on another version or another cartridge (R403). Safe: the machine is unchanged. -/
  | incompatibleSnapshot (version : Nat)
  /-- Raised by nothing: the decode is a partition (R404, R69). Kept for R405's four constructors. Safe. -/
  | addressDecodeAmbiguity
  deriving DecidableEq, Repr

/-- The reasons for which an instruction is given no meaning. -/
inductive Refusal where
  /-- Raised by an arm of `exec` whose instruction has no meaning yet: no arm is one. Safe. -/
  | notModelled (mnemonic : String)
  deriving DecidableEq, Repr

/-- What a step answers. -/
abbrev Result := Host.Outcome State Fault Refusal

/-! ### The state at power-on (R54, R500) -/

/-- TIA registers at power-on: all 0 (R39, R54). -/
def TiaRegs.zero : TiaRegs :=
  ⟨0, 0, 0, 0, 0, 0, 0, 0, 0, 0, 0, 0, 0, 0, 0, 0, 0, 0, 0, 0, 0, 0, 0, 0, 0, 0, 0⟩

/-- Graphics at power-on: all 0 (R43, R54). -/
def Graphics.zero : Graphics := ⟨0, 0, 0, 0, 0, 0, 0, false, false, false, false⟩

/-- TIA state at power-on (R54): everything 0, `pending` empty, the input latches 1. -/
def Tia.powerOn : Tia where
  hclock := 0
  scanline := 0
  frame := 0
  wsyncHalt := false
  vsyncOn := false
  vblankOn := false
  regs := TiaRegs.zero
  gfx := Graphics.zero
  pos := ⟨0, 0, 0, 0, 0⟩
  cx := Collisions.clear
  audio := ⟨0, 0, 0, false, false⟩
  pending := []
  inpt4Latch := true
  inpt5Latch := true

/-- RIOT state at power-on (R50, R54): `shift` 10, the timer the OPEN value, the rest 0 (notes/assumptions/14.md). -/
def Riot.powerOn (timer : Byte) : Riot where
  timer := timer
  shift := .by1024
  prescale := 0
  underflow := false
  fast := false
  ora := 0
  orb := 0
  ddra := 0
  ddrb := 0

/-- CPU registers at power-on before `reset()` loads PC: the OPEN values, I = 0 and B = 0 (R54). PC has no value
before `reset()`: it is written by every construction. -/
def Cpu.powerOn (p : PowerOn) : Cpu where
  a := p.a
  x := p.x
  y := p.y
  s := p.s
  pc := 0x0000
  n := p.n
  v := p.v
  b := false
  d := p.d
  i := false
  z := p.z
  c := p.c

/-- A machine under construction: every piece of state at the value of R54's table, before the CPU's `reset()`
runs (R500). -/
def State.powerOn (cfg : Config) (p : PowerOn) (cart : Cart) : State where
  cpu := Cpu.powerOn p
  pipe := Latches.idle
  cpuFault := none
  cycleCounter := 0
  ram := p.ram
  cart := cart
  tia := Tia.powerOn
  riot := Riot.powerOn p.timer
  cfg := cfg
  inputs := []
  draws := 0
  video := []
  audioOut := []

/-- The cartridge of the state after reset: a blank 4096-byte image with one bank, nothing listed.
DESIGN CHOICE (notes/assumptions/5.md), unsafe: R7 leaves ROM and SCHEME OPEN. -/
def Cart.blank : Cart where
  tag := .singleBank
  romSize := 4096
  rom := []
  variant := .single
  ram := []

/-- The machine right after reset (R54, R502): the simulation defaults for the OPEN values, a blank cartridge,
and so PC = $0000, the word a blank image holds at the reset vector (notes/assumptions/3.md, 4.md, 5.md).
`reset_is_cpuReset_of_powerOn` shows that it is the CPU's `reset()` of a machine under construction. -/
def State.reset : State := State.powerOn Config.simulation PowerOn.simulation Cart.blank

/-! ### Updates of one component -/

def State.withCpu (s : State) (c : Cpu) : State := { s with cpu := c }
def State.withPipe (s : State) (p : Latches) : State := { s with pipe := p }
def State.withCpuFault (s : State) (f : Option UnimplementedOpcode) : State := { s with cpuFault := f }
def State.withRam (s : State) (m : Memory) : State := { s with ram := m }
def State.withCart (s : State) (c : Cart) : State := { s with cart := c }
def State.withTia (s : State) (t : Tia) : State := { s with tia := t }
def State.withRiot (s : State) (r : Riot) : State := { s with riot := r }
def State.withDraws (s : State) (k : Nat) : State := { s with draws := k }

end Sys2Proof.Machine
end

