-- ==== Sys2Proof/Machine/Memory.lean ====
section
/-! DEFINITION. The one form in which RIOT RAM, cartridge RAM and the ROM image are held: a canonical list of
(cell, byte) pairs (R36, R37, R79). -/

namespace Sys2Proof.Machine

/-- What a cell nothing has written reads as: $00, the spec's simulation default of `RAM_INIT` and `CART_RAM_INIT`
(R7) and what R258 says a read of an all-zero or missing region returns. DESIGN CHOICE (notes/assumptions/4.md),
unsafe: R36 and R88 say `any`. -/
def Memory.unlisted : Byte := 0x00

/-- The byte of cell `a`. -/
def Memory.read (m : Memory) (a : Nat) : Byte :=
  match m with
  | [] => Memory.unlisted
  | (k, v) :: t => if k = a then v else Memory.read t a

/-- The list without cell `a`. -/
def Memory.erase (m : Memory) (a : Nat) : Memory :=
  match m with
  | [] => []
  | (k, v) :: t => if k = a then Memory.erase t a else (k, v) :: Memory.erase t a

/-- The list with `(a, v)` before the first higher cell. -/
def Memory.insert (m : Memory) (a : Nat) (v : Byte) : Memory :=
  match m with
  | [] => [(a, v)]
  | (k, w) :: t => if a < k then (a, v) :: (k, w) :: t else (k, w) :: Memory.insert t a v

/-- Storing byte `v` in cell `a`; storing what an unlisted cell reads as removes the entry. -/
def Memory.write (m : Memory) (a : Nat) (v : Byte) : Memory :=
  if v = Memory.unlisted then Memory.erase m a else Memory.insert (Memory.erase m a) a v

/-- The canonical form: cells strictly rising, no entry equal to what an unlisted cell reads as. -/
abbrev Memory.wf (m : Memory) : Prop :=
  m.Pairwise (fun p q => p.1 < q.1) ∧ ∀ p ∈ m, p.2 ≠ Memory.unlisted

/-- Every listed cell is below `n`. -/
abbrev Memory.below (m : Memory) (n : Nat) : Prop := ∀ p ∈ m, p.1 < n

/-- Storing a sequence of bytes from cell `a` upward. -/
def Memory.writeBytes (m : Memory) (a : Nat) (vs : List Byte) : Memory :=
  match vs with
  | [] => m
  | v :: t => Memory.writeBytes (Memory.write m a v) (a + 1) t

end Sys2Proof.Machine
end

