-- ==== Sys2Proof/Machine/Cartridge.lean ====
section
/-! DEFINITION. The cartridge: scheme parameters, hot addresses, what a window offset reaches, the `fe` snoop
(20_memory.md R79, R85 to R100). -/

namespace Sys2Proof.Machine

/-! ### From scheme and ROM size to a variant (R89 to R99) -/

/-- R91's inference of the hot range from the ROM size, with `n` bytes of RAM: 8192, 16384 and 32768 bytes. -/
def hotBySize (romSize n : Nat) : Option HotScheme :=
  if romSize = 8192 then some ⟨2, 0xFF8, 0xFF9, n⟩
  else if romSize = 16384 then some ⟨4, 0xFF6, 0xFF9, n⟩
  else if romSize = 32768 then some ⟨8, 0xFF4, 0xFFB, n⟩
  else none

/-- `f4` (R92). -/
def f4Scheme : HotScheme := ⟨8, 0xFF4, 0xFFB, 0⟩

/-- `cbs` (R94). -/
def cbsScheme : HotScheme := ⟨3, 0xFF8, 0xFFA, 256⟩

/-- The variant in its power-on state, or `none` where the size does not fit the scheme, which is
`InvalidCartridgeImage` (R89, R402). For scheme `e` the spec leaves the accepted size OPEN (R97, R99): exactly
`nb * 4096` bytes, DESIGN CHOICE (notes/assumptions/25.md). -/
def resolveVariant (cartE : HotScheme) (p : PowerOn) (tag : SchemeTag) (romSize : Nat) : Option Variant :=
  match tag with
  | .singleBank => if romSize = 2048 ∨ romSize = 4096 then some .single else none
  | .default =>
    if romSize = 2048 ∨ romSize = 4096 then some .single
    else if romSize = 12288 then some (.hot cbsScheme p.bank)
    else (hotBySize romSize 0).map fun h => .hot h p.bank
  | .f4 => if romSize = 32768 then some (.hot f4Scheme p.bank) else none
  | .super => (hotBySize romSize 128).map fun h => .hot h p.bank
  | .cbs => if romSize = 12288 then some (.hot cbsScheme p.bank) else none
  | .fe => if romSize = 8192 then some (.fe false false) else none
  | .pb => if romSize = 8192 then some (.pb p.seg0 p.seg1 p.seg2) else none
  | .e => if romSize = cartE.nb * 4096 then some (.hot cartE p.bank) else none
  | .mnet => if romSize = 16384 then some (.mnet p.mnetLo p.mnetRp) else none

/-! ### Accesses in the window -/

/-- What a window offset reaches after the switch (R88). -/
inductive CartCell where
  /-- Byte `i` of the ROM image. -/
  | rom (i : Nat)
  /-- The write port of RAM cell `i`. -/
  | writePort (i : Nat)
  /-- The read port of RAM cell `i`. -/
  | readPort (i : Nat)
  deriving DecidableEq, Repr

/-- The switch an access at offset `o` makes, read or write alike (R86; R79, R96, R98). An offset that is not hot
leaves the variant as it is. -/
def Variant.switch (v : Variant) (o : Nat) : Variant :=
  match v with
  | .single => .single
  | .hot p bank => .hot p (if p.hLo ≤ o ∧ o ≤ p.hHi then o - p.hLo else bank)
  | .fe bank1 armed => .fe bank1 armed
  | .pb s0 s1 s2 =>
    .pb (if 0xFE0 ≤ o ∧ o ≤ 0xFE7 then o - 0xFE0 else s0)
        (if 0xFE8 ≤ o ∧ o ≤ 0xFEF then o - 0xFE8 else s1)
        (if 0xFF0 ≤ o ∧ o ≤ 0xFF7 then o - 0xFF0 else s2)
  | .mnet lo rp =>
    .mnet (if 0xFE0 ≤ o ∧ o ≤ 0xFE7 then o - 0xFE0 else lo)
          (if 0xFE8 ≤ o ∧ o ≤ 0xFEB then o - 0xFE8 else rp)

/-- Whether offset `o` is hot under the variant (R86, R99). -/
def Variant.hotOffset (v : Variant) (o : Nat) : Bool :=
  match v with
  | .single => false
  | .hot p _ => decide (p.hLo ≤ o) && decide (o ≤ p.hHi)
  | .fe _ _ => false
  | .pb _ _ _ => decide (0xFE0 ≤ o) && decide (o ≤ 0xFF7)
  | .mnet _ _ => decide (0xFE0 ≤ o) && decide (o ≤ 0xFEB)

/-- What offset `o` reaches in the active bank (R79, R90, R95, R96, R98). -/
def Cart.locate (c : Cart) (o : Nat) : CartCell :=
  match c.variant with
  | .single => .rom (o % c.romSize)
  | .hot p bank =>
    if o < p.ramSize then .writePort o
    else if o < 2 * p.ramSize then .readPort (o - p.ramSize)
    else .rom (bank * 4096 + o)
  | .fe bank1 _ => .rom ((if bank1 then 4096 else 0) + o)
  | .pb s0 s1 s2 =>
    .rom ((if o < 0x400 then s0 else if o < 0x800 then s1 else if o < 0xC00 then s2 else 7) * 1024 + o % 1024)
  | .mnet lo rp =>
    if o < 0x800 then
      if lo = 7 then (if o < 0x400 then .writePort o else .readPort (o - 0x400))
      else .rom (lo * 2048 + o)
    else if o < 0x900 then .writePort (1024 + rp * 256 + (o - 0x800))
    else if o < 0xA00 then .readPort (1024 + rp * 256 + (o - 0x900))
    else .rom (7 * 2048 + (o - 0x800))

/-- The cartridge after the switch an access at `o` makes. -/
def Cart.switched (c : Cart) (o : Nat) : Cart := { c with variant := c.variant.switch o }

/-- `CartRead(o)` with the free values a write-port read takes (R86, R88): `some v` says that a write port was
read, the byte returned is `fresh.1` and the cell becomes `fresh.2`. -/
def Cart.read (c : Cart) (o : Nat) (fresh : Byte × Byte) : Byte × Cart :=
  let c := c.switched o
  match c.locate o with
  | .rom i => (Memory.read c.rom i, c)
  | .readPort i => (Memory.read c.ram i, c)
  | .writePort i => (fresh.1, { c with ram := Memory.write c.ram i fresh.2 })

/-- Whether a read at `o` reads a write port (R88). -/
def Cart.readsWritePort (c : Cart) (o : Nat) : Bool :=
  match (c.switched o).locate o with
  | .writePort _ => true
  | .rom _ => false
  | .readPort _ => false

/-- `CartWrite(o, v)` (R79, R87, R88): stores at a write port only, after the switch. -/
def Cart.write (c : Cart) (o : Nat) (v : Byte) : Cart :=
  let c := c.switched o
  match c.locate o with
  | .writePort i => { c with ram := Memory.write c.ram i v }
  | .rom _ => c
  | .readPort _ => c

/-- `CartSnoop(a, d)` (R85, R95): after every Bus access with its 13-bit address and the byte moved. Only `fe`
uses it. `bank1` is `bank = 1`. -/
def Variant.snoop (v : Variant) (a : Nat) (d : Byte) : Variant :=
  match v with
  | .fe bank1 armed => .fe (if armed then !d.getLsbD 5 else bank1) (a == 0x01FE)
  | .single => .single
  | .hot p bank => .hot p bank
  | .pb s0 s1 s2 => .pb s0 s1 s2
  | .mnet lo rp => .mnet lo rp

/-- The cartridge after a snoop. -/
def Cart.snoop (c : Cart) (a : Nat) (d : Byte) : Cart := { c with variant := c.variant.snoop a d }

/-- How many cells of extra RAM the variant has (R79, R98). -/
def Variant.ramSize : Variant → Nat
  | .single => 0
  | .hot p _ => p.ramSize
  | .fe _ _ => 0
  | .pb _ _ _ => 0
  | .mnet _ _ => 2048

/-- The variant with its bank state at 0: what is left is the scheme and its parameters, which no access changes (R85). -/
def Variant.scheme : Variant → Variant
  | .single => .single
  | .hot p _ => .hot p 0
  | .fe _ _ => .fe false false
  | .pb _ _ _ => .pb 0 0 0
  | .mnet _ _ => .mnet 0 0

/-- The bank state is in its range (R79, R96, R98). -/
def Variant.inRange : Variant → Bool
  | .single => true
  | .hot p bank => decide (bank < p.nb) && decide (p.hHi + 1 = p.hLo + p.nb)
  | .fe _ _ => true
  | .pb s0 s1 s2 => decide (s0 < 8) && decide (s1 < 8) && decide (s2 < 8)
  | .mnet lo rp => decide (lo < 8) && decide (rp < 4)

end Sys2Proof.Machine
end

