-- ==== Sys2Proof/Machine/Riot.lean ====
section
/-! DEFINITION. The RIOT: `tick()`, timer load, port and timer registers (60_exceptions.md R450 to R456;
20_memory.md R67). -/

namespace Sys2Proof.Machine

/-- `2^shift`: the interval in ticks (R50). -/
def Interval.ticks : Interval → Nat
  | .by1 => 1
  | .by8 => 8
  | .by64 => 64
  | .by1024 => 1024

/-- `RIOT.tick()` (R450). -/
def Riot.tick (r : Riot) : Riot :=
  if r.fast then
    { r with timer := r.timer - 1, underflow := r.underflow || r.timer == 0 }
  else if r.prescale = 0 then
    if r.timer = 0 then
      { r with timer := 0xFF, underflow := true, fast := true, prescale := r.shift.ticks - 1 }
    else
      { r with timer := r.timer - 1, prescale := r.shift.ticks - 1 }
  else
    { r with prescale := r.prescale - 1 }

/-- `n` ticks. -/
def Riot.ticks : Nat → Riot → Riot
  | 0, r => r
  | n + 1, r => Riot.ticks n r.tick

/-- A timer load (R454). -/
def Riot.loadTimer (r : Riot) (i : Interval) (v : Byte) : Riot :=
  { r with timer := v, shift := i, prescale := 0, underflow := false, fast := false }

/-- The interval a timer-load address selects by `a[1:0]` (R67). -/
def intervalOf (k : Nat) : Interval :=
  match k with
  | 0 => .by1
  | 1 => .by8
  | 2 => .by64
  | _ => .by1024

/-- A port read, bit by bit `ddr[i] ? or[i] : pin[i]` (R452). -/
def portRead (ddr out pins : Byte) : Byte := (ddr &&& out) ||| (~~~ddr &&& pins)

/-- `{underflow, 0, 0, 0, 0, 0, 0, 0}` (R456). -/
def Riot.instat (r : Riot) : Byte := if r.underflow then 0x80 else 0x00

/-- A read at a RIOT I/O address (R67, R452, R455, R456): the byte and the RIOT afterwards. Reading INTIM clears
`underflow`; no other read has an effect. -/
def Riot.read (r : Riot) (inp : Inputs) (a : Word) : Byte × Riot :=
  if a.getLsbD 2 then
    if a.getLsbD 0 then (r.instat, r) else (r.timer, { r with underflow := false })
  else if a.getLsbD 1 then
    if a.getLsbD 0 then (r.ddrb, r) else (portRead r.ddrb r.orb inp.pb, r)
  else
    if a.getLsbD 0 then (r.ddra, r) else (portRead r.ddra r.ora inp.pa, r)

/-- A write at a RIOT I/O address (R67, R453, R454). With `a[2] = 1` and `a[4] = 0` nothing happens. -/
def Riot.write (r : Riot) (a : Word) (v : Byte) : Riot :=
  if a.getLsbD 2 then
    if a.getLsbD 4 then r.loadTimer (intervalOf (a.toNat % 4)) v else r
  else if a.getLsbD 1 then
    if a.getLsbD 0 then { r with ddrb := v } else { r with orb := v }
  else
    if a.getLsbD 0 then { r with ddra := v } else { r with ora := v }

end Sys2Proof.Machine
end

