-- ==== Sys2Proof/Machine/Tia.lean ====
section
/-! DEFINITION. The TIA: `tick()`, rendering, collisions, audio, line wrap, register reads and writes
(60_exceptions.md R459 to R488; 10_state.md R39, R40). -/

namespace Sys2Proof.Machine

/-! ### Delayed writes (R460, R461, R475) -/

/-- The effect of an applied delayed write (R461). -/
def Graphics.apply (g : Graphics) (w : PendingWrite) : Graphics :=
  match w.reg with
  | .pf0 => { g with pf0 := w.value &&& 0xF0 }
  | .pf1 => { g with pf1 := w.value }
  | .pf2 => { g with pf2 := w.value }
  | .grp0 => { g with grp0New := w.value, grp1Old := g.grp1New }
  | .grp1 => { g with grp1New := w.value, grp0Old := g.grp0New, enablOld := g.enablNew }
  | .enam0 => { g with enam0 := w.value.getLsbD 1 }
  | .enam1 => { g with enam1 := w.value.getLsbD 1 }
  | .enabl => { g with enablNew := w.value.getLsbD 1 }

/-- Every entry one clock older (R475). -/
def agePending (ws : List PendingWrite) : List PendingWrite :=
  ws.map fun w => { w with remaining := w.remaining - 1 }

/-- The aged entries that are due, oldest first (R475). -/
def duePending (ws : List PendingWrite) : List PendingWrite :=
  (agePending ws).filter fun w => w.remaining == 0

/-- The aged entries that stay (R475). -/
def keptPending (ws : List PendingWrite) : List PendingWrite :=
  (agePending ws).filter fun w => !(w.remaining == 0)

/-- Step 1 of a tick: apply due delayed writes, oldest first (R475; notes/assumptions/24.md). -/
def Tia.applyDelayed (t : Tia) : Tia :=
  { t with gfx := (duePending t.pending).foldl Graphics.apply t.gfx, pending := keptPending t.pending }

/-! ### Objects (R468, R469, R471, R476) -/

/-- `NUSIZ[2:0]`. -/
def nusizNumber (v : Byte) : Nat := v.toNat % 8

/-- `1 << v[5:4]`: a missile's or the ball's width (R39, R471). -/
def objectWidth (v : Byte) : Nat := 2 ^ (v.toNat / 16 % 4)

/-- The copy offsets of R469's table. -/
def copyOffsets (n : Nat) : List Nat :=
  match n with
  | 1 => [0, 16]
  | 2 => [0, 32]
  | 3 => [0, 16, 32]
  | 4 => [0, 64]
  | 6 => [0, 32, 64]
  | _ => [0]

/-- The width of one pattern bit (R469). -/
def playerWidth (n : Nat) : Nat :=
  match n with
  | 5 => 2
  | 7 => 4
  | _ => 1

/-- `(x - pos - c) mod 160`. -/
def distance (x pos c : Nat) : Nat := (((x : Int) - pos - c) % 160).toNat

/-- The playfield bit at pixel `x` (R468). -/
def playfieldBit (g : Graphics) (ctrlpf : Byte) (x : Nat) : Bool :=
  let j := x % 80 / 4
  let j := if 80 ≤ x ∧ ctrlpf.getLsbD 0 = true then 19 - j else j
  if j < 4 then g.pf0.getLsbD (4 + j)
  else if j < 12 then g.pf1.getLsbD (11 - j)
  else g.pf2.getLsbD (j - 12)

/-- A player's bit at pixel `x` (R469). -/
def playerBit (pattern : Byte) (reflect : Bool) (nusiz : Byte) (pos x : Nat) : Bool :=
  (copyOffsets (nusizNumber nusiz)).any fun c =>
    let d := distance x pos c
    let w := playerWidth (nusizNumber nusiz)
    decide (d < 8 * w) && (if reflect then pattern.getLsbD (d / w) else pattern.getLsbD (7 - d / w))

/-- A missile's bit at pixel `x` (R471). -/
def missileBit (enabled : Bool) (nusiz : Byte) (pos x : Nat) : Bool :=
  enabled && (copyOffsets (nusizNumber nusiz)).any fun c => decide (distance x pos c < objectWidth nusiz)

/-- The ball's bit at pixel `x` (R471). -/
def ballBit (enabled : Bool) (ctrlpf : Byte) (pos x : Nat) : Bool :=
  enabled && decide (distance x pos 0 < objectWidth ctrlpf)

/-- The six object bits of one pixel. -/
structure ObjectBits where
  p0 : Bool
  p1 : Bool
  m0 : Bool
  m1 : Bool
  bl : Bool
  pf : Bool
  deriving DecidableEq, Repr

/-- The pattern a player shows (R469). -/
def shownPattern (vdel : Byte) (old new : Byte) : Byte := if vdel.getLsbD 0 then old else new

/-- The six object bits at pixel `x` (R468, R469, R471). -/
def Tia.objectsAt (t : Tia) (x : Nat) : ObjectBits where
  p0 := playerBit (shownPattern t.regs.vdelp0 t.gfx.grp0Old t.gfx.grp0New) (t.regs.refp0.getLsbD 3) t.regs.nusiz0 t.pos.p0 x
  p1 := playerBit (shownPattern t.regs.vdelp1 t.gfx.grp1Old t.gfx.grp1New) (t.regs.refp1.getLsbD 3) t.regs.nusiz1 t.pos.p1 x
  m0 := missileBit (t.gfx.enam0 && !t.regs.resmp0.getLsbD 1) t.regs.nusiz0 t.pos.m0 x
  m1 := missileBit (t.gfx.enam1 && !t.regs.resmp1.getLsbD 1) t.regs.nusiz1 t.pos.m1 x
  bl := ballBit (if t.regs.vdelbl.getLsbD 0 then t.gfx.enablOld else t.gfx.enablNew) t.regs.ctrlpf t.pos.bl x
  pf := playfieldBit t.gfx t.regs.ctrlpf x

/-- The distance from a player's position to the missile locked to it (R476). -/
def lockOffset (nusiz : Byte) : Nat :=
  match nusizNumber nusiz with
  | 5 => 6
  | 7 => 10
  | _ => 3

/-- Step 2 of a tick: missiles locked to players (R476). -/
def Tia.lockMissiles (t : Tia) : Tia :=
  { t with pos := { t.pos with
      m0 := if t.regs.resmp0.getLsbD 1 then (t.pos.p0 + lockOffset t.regs.nusiz0) % 160 else t.pos.m0
      m1 := if t.regs.resmp1.getLsbD 1 then (t.pos.p1 + lockOffset t.regs.nusiz1) % 160 else t.pos.m1 } }

/-! ### Collisions, priority, output (R472, R473, R470) -/

/-- The latches after one pixel (R472). -/
def Collisions.latch (c : Collisions) (o : ObjectBits) : Collisions where
  m0p1 := c.m0p1 || (o.m0 && o.p1)
  m0p0 := c.m0p0 || (o.m0 && o.p0)
  m1p0 := c.m1p0 || (o.m1 && o.p0)
  m1p1 := c.m1p1 || (o.m1 && o.p1)
  p0pf := c.p0pf || (o.p0 && o.pf)
  p0bl := c.p0bl || (o.p0 && o.bl)
  p1pf := c.p1pf || (o.p1 && o.pf)
  p1bl := c.p1bl || (o.p1 && o.bl)
  m0pf := c.m0pf || (o.m0 && o.pf)
  m0bl := c.m0bl || (o.m0 && o.bl)
  m1pf := c.m1pf || (o.m1 && o.pf)
  m1bl := c.m1bl || (o.m1 && o.bl)
  blpf := c.blpf || (o.bl && o.pf)
  p0p1 := c.p0p1 || (o.p0 && o.p1)
  m0m1 := c.m0m1 || (o.m0 && o.m1)

/-- The visible part of a line: `hclock >= 68` (R474). -/
def Tia.visible (t : Tia) : Bool := decide (68 ≤ t.hclock)

/-- The pixel a tick draws: `x = hclock - 68` (R474). -/
def Tia.pixelX (t : Tia) : Nat := t.hclock - 68

/-- Step 3 of a tick, collision part: on a visible pixel with the vertical-blank latch 0 (R459, R472). -/
def Tia.collide (t : Tia) : Tia :=
  { t with cx := if t.visible && !t.vblankOn then t.cx.latch (t.objectsAt t.pixelX) else t.cx }

/-- The colour of pixel `x` (R473). -/
def colourOf (t : Tia) (x : Nat) (o : ObjectBits) : Byte :=
  if t.vblankOn then 0x00
  else if t.regs.ctrlpf.getLsbD 2 then
    if o.pf || o.bl then t.regs.colupf
    else if o.p0 || o.m0 then t.regs.colup0
    else if o.p1 || o.m1 then t.regs.colup1
    else t.regs.colubk
  else
    if o.p0 || o.m0 then t.regs.colup0
    else if o.p1 || o.m1 then t.regs.colup1
    else if o.bl then t.regs.colupf
    else if o.pf then
      (if t.regs.ctrlpf.getLsbD 1 then (if x < 80 then t.regs.colup0 else t.regs.colup1) else t.regs.colupf)
    else t.regs.colubk

/-- The record one tick sends to the frame sink, none in horizontal blank (R470). -/
def Tia.pixelOut (t : Tia) : List PixelOut :=
  if t.visible then [⟨t.frame, t.scanline, t.pixelX, colourOf t t.pixelX (t.objectsAt t.pixelX)⟩] else []

/-! ### Audio (R482, R486) -/

/-- Whether this tick is an audio step. -/
def audioStepNow (div : Nat) (a : AudioState) : Bool := a.pre + 1 == div

/-- Step 4 of a tick: the audio prescaler and dividers (R482). -/
def Tia.audioStep (t : Tia) (div : Nat) : Tia :=
  { t with audio :=
      if audioStepNow div t.audio then
        { pre := 0
          div0 := if t.audio.div0 = 0 then t.regs.audf0.toNat else t.audio.div0 - 1
          div1 := if t.audio.div1 = 0 then t.regs.audf1.toNat else t.audio.div1 - 1
          out0 := if t.audio.div0 = 0 then !t.audio.out0 else t.audio.out0
          out1 := if t.audio.div1 = 0 then !t.audio.out1 else t.audio.out1 }
      else { t.audio with pre := t.audio.pre + 1 } }

/-- The record an audio step sends to the audio sink, from the TIA after the step (R486). `stepped` says whether
the tick was an audio step. -/
def Tia.audioRecord (t : Tia) (stepped : Bool) : List AudioOut :=
  if stepped then
    [⟨if t.audio.out0 then t.regs.audv0 else 0, if t.audio.out1 then t.regs.audv1 else 0⟩]
  else []

/-! ### The line (R467) -/

/-- Whether the tick takes `hclock` to 228. `≥` and not `=`: the two differ only where `hclock` is above 227, which
no run reaches (notes/assumptions/13.md). -/
def Tia.wraps (t : Tia) : Bool := decide (228 ≤ t.hclock + 1)

/-- Step 5 of a tick: the color clock and the line wrap (R467). -/
def Tia.advanceClock (t : Tia) : Tia :=
  let vs := t.regs.vsync.getLsbD 1
  let newFrame := t.vsyncOn && !vs
  { t with
    hclock := if t.wraps then 0 else t.hclock + 1
    wsyncHalt := if t.wraps then false else t.wsyncHalt
    vsyncOn := if t.wraps then vs else t.vsyncOn
    vblankOn := if t.wraps then t.regs.vblank.getLsbD 1 else t.vblankOn
    scanline := if t.wraps then (if newFrame then 0 else t.scanline + 1) else t.scanline
    frame := if t.wraps then (if newFrame then t.frame + 1 else t.frame) else t.frame }

/-- Steps 1 and 2 of a tick (R459). -/
def Tia.beforeRender (t : Tia) : Tia := t.applyDelayed.lockMissiles

/-- `TIA.tick()` (R459); `div` is `AUDIO_CLOCK_DIV`. -/
def Tia.tick (div : Nat) (t : Tia) : Tia :=
  ((t.beforeRender.collide).audioStep div).advanceClock

/-! ### Register writes (R39, R460 to R466) -/

/-- The position a strobe latches (R464): `x0` is -2 in horizontal blank, else `hclock - 68`. -/
def strobePosition (hclock offset : Nat) : Nat :=
  (((if hclock < 68 then (-2 : Int) else (hclock : Int) - 68) + offset) % 160).toNat

/-- `HM[7:4]` as a signed 4-bit number (R465). -/
def motionOf (hm : Byte) : Int := (hm.extractLsb' 4 4).toInt

/-- One object moved by its motion register, positive motion left (R465). -/
def moved (pos : Nat) (hm : Byte) : Nat := (((pos : Int) - motionOf hm) % 160).toNat

/-- HMOVE (R465). -/
def Tia.hmove (t : Tia) : Tia :=
  { t with pos :=
      { p0 := moved t.pos.p0 t.regs.hmp0
        p1 := moved t.pos.p1 t.regs.hmp1
        m0 := moved t.pos.m0 t.regs.hmm0
        m1 := moved t.pos.m1 t.regs.hmm1
        bl := moved t.pos.bl t.regs.hmbl } }

/-- HMCLR (R465). -/
def Tia.hmclr (t : Tia) : Tia :=
  { t with regs := { t.regs with hmp0 := 0, hmp1 := 0, hmm0 := 0, hmm1 := 0, hmbl := 0 } }

/-- A write to a delayed register appends to the buffer and changes nothing else (R460). -/
def Tia.delay (t : Tia) (f : FuturePixels) (r : DelayedReg) (v : Byte) : Tia :=
  { t with pending := t.pending ++ [⟨r, v, f.of r⟩] }

/-- A CPU write of `v` to TIA write register `r` (0 to 63), with the bits kept by R39's table. -/
def Tia.write (cfg : Config) (t : Tia) (r : Nat) (v : Byte) : Tia :=
  match r with
  | 0x00 => { t with regs := { t.regs with vsync := v &&& 0x02 } }
  | 0x01 => { t with regs := { t.regs with vblank := v &&& 0xC2 } }
  | 0x02 => { t with wsyncHalt := true }
  | 0x03 => t
  | 0x04 => { t with regs := { t.regs with nusiz0 := v &&& 0x37 } }
  | 0x05 => { t with regs := { t.regs with nusiz1 := v &&& 0x37 } }
  | 0x06 => { t with regs := { t.regs with colup0 := v &&& 0xFE } }
  | 0x07 => { t with regs := { t.regs with colup1 := v &&& 0xFE } }
  | 0x08 => { t with regs := { t.regs with colupf := v &&& 0xFE } }
  | 0x09 => { t with regs := { t.regs with colubk := v &&& 0xFE } }
  | 0x0A => { t with regs := { t.regs with ctrlpf := v &&& 0x37 } }
  | 0x0B => { t with regs := { t.regs with refp0 := v &&& 0x08 } }
  | 0x0C => { t with regs := { t.regs with refp1 := v &&& 0x08 } }
  | 0x0D => t.delay cfg.futurePixels .pf0 v
  | 0x0E => t.delay cfg.futurePixels .pf1 v
  | 0x0F => t.delay cfg.futurePixels .pf2 v
  | 0x10 => { t with pos := { t.pos with p0 := strobePosition t.hclock cfg.playerResetOffset } }
  | 0x11 => { t with pos := { t.pos with p1 := strobePosition t.hclock cfg.playerResetOffset } }
  | 0x12 => { t with pos := { t.pos with m0 := strobePosition t.hclock cfg.missileResetOffset } }
  | 0x13 => { t with pos := { t.pos with m1 := strobePosition t.hclock cfg.missileResetOffset } }
  | 0x14 => { t with pos := { t.pos with bl := strobePosition t.hclock cfg.ballResetOffset } }
  | 0x15 => { t with regs := { t.regs with audc0 := v &&& 0x0F } }
  | 0x16 => { t with regs := { t.regs with audc1 := v &&& 0x0F } }
  | 0x17 => { t with regs := { t.regs with audf0 := v &&& 0x1F } }
  | 0x18 => { t with regs := { t.regs with audf1 := v &&& 0x1F } }
  | 0x19 => { t with regs := { t.regs with audv0 := v &&& 0x0F } }
  | 0x1A => { t with regs := { t.regs with audv1 := v &&& 0x0F } }
  | 0x1B => t.delay cfg.futurePixels .grp0 v
  | 0x1C => t.delay cfg.futurePixels .grp1 v
  | 0x1D => t.delay cfg.futurePixels .enam0 v
  | 0x1E => t.delay cfg.futurePixels .enam1 v
  | 0x1F => t.delay cfg.futurePixels .enabl v
  | 0x20 => { t with regs := { t.regs with hmp0 := v &&& 0xF0 } }
  | 0x21 => { t with regs := { t.regs with hmp1 := v &&& 0xF0 } }
  | 0x22 => { t with regs := { t.regs with hmm0 := v &&& 0xF0 } }
  | 0x23 => { t with regs := { t.regs with hmm1 := v &&& 0xF0 } }
  | 0x24 => { t with regs := { t.regs with hmbl := v &&& 0xF0 } }
  | 0x25 => { t with regs := { t.regs with vdelp0 := v &&& 0x01 } }
  | 0x26 => { t with regs := { t.regs with vdelp1 := v &&& 0x01 } }
  | 0x27 => { t with regs := { t.regs with vdelbl := v &&& 0x01 } }
  | 0x28 => { t with regs := { t.regs with resmp0 := v &&& 0x02 } }
  | 0x29 => { t with regs := { t.regs with resmp1 := v &&& 0x02 } }
  | 0x2A => t.hmove
  | 0x2B => t.hmclr
  | 0x2C => { t with cx := Collisions.clear }
  | _ => t

/-! ### Register reads and input latches (R40, R480) -/

/-- Bits 7 and 6 of TIA read register `r` (0 to 15) (R40, R480). Reads have no side effect. -/
def Tia.read (t : Tia) (inp : Inputs) (r : Nat) : Bool × Bool :=
  let dumped := t.regs.vblank.getLsbD 7
  let latched := t.regs.vblank.getLsbD 6
  match r with
  | 0x0 => (t.cx.m0p1, t.cx.m0p0)
  | 0x1 => (t.cx.m1p0, t.cx.m1p1)
  | 0x2 => (t.cx.p0pf, t.cx.p0bl)
  | 0x3 => (t.cx.p1pf, t.cx.p1bl)
  | 0x4 => (t.cx.m0pf, t.cx.m0bl)
  | 0x5 => (t.cx.m1pf, t.cx.m1bl)
  | 0x6 => (t.cx.blpf, false)
  | 0x7 => (t.cx.p0p1, t.cx.m0m1)
  | 0x8 => (!dumped && inp.in0, false)
  | 0x9 => (!dumped && inp.in1, false)
  | 0xA => (!dumped && inp.in2, false)
  | 0xB => (!dumped && inp.in3, false)
  | 0xC => (if latched then t.inpt4Latch else inp.in4, false)
  | 0xD => (if latched then t.inpt5Latch else inp.in5, false)
  | _ => (false, false)

/-- A TIA read byte: bits 7 and 6 driven, `low` below (R40, R74). -/
def tiaByte (hi : Bool × Bool) (low : BitVec 6) : Byte := BitVec.ofBool hi.1 ++ (BitVec.ofBool hi.2 ++ low)

/-- The input latches at the start of a call (R49, R480). -/
def Tia.sampleInputs (t : Tia) (inp : Inputs) : Tia :=
  let latched := t.regs.vblank.getLsbD 6
  { t with
    inpt4Latch := if latched then t.inpt4Latch && inp.in4 else true
    inpt5Latch := if latched then t.inpt5Latch && inp.in5 else true }

end Sys2Proof.Machine
end

