-- ==== Sys2Proof/Machine/Scheduler.lean ====
section
/-! DEFINITION. The parts of `advance()` around the CPU's cycle: the device work at its start, the end of the call, and
the stalled calls before a cycle the CPU consumes (60_exceptions.md R430 to R433, R441). -/

namespace Sys2Proof.Machine

/-- The sample of the external inputs that holds in the current call (R441): the host's list while it lasts, then
`INPUTS(cycle_counter)`, of which nothing is known (notes/assumptions/1.md). -/
def State.input (s : State) : Inputs :=
  match s.inputs with
  | [] => Config.inputs s.cycleCounter
  | i :: _ => i

/-- One TIA tick with what it sends to the sinks (R459, R470, R486). -/
def tickTia (s : State) : State :=
  { s with
    tia := s.tia.tick s.cfg.audioClockDiv
    video := s.tia.beforeRender.pixelOut ++ s.video
    audioOut :=
      ((s.tia.beforeRender.collide).audioStep s.cfg.audioClockDiv).audioRecord
        (audioStepNow s.cfg.audioClockDiv s.tia.audio) ++ s.audioOut }

/-- The device work at the start of one `advance()`: input latches, three TIA ticks, the RIOT ticks (R430, R451). -/
def tickDevices (s : State) : State :=
  let s1 := s.withTia (s.tia.sampleInputs s.input)
  let s2 := tickTia (tickTia (tickTia s1))
  s2.withRiot (Riot.ticks s.cfg.riotRate.ticks s2.riot)

/-- The end of one `advance()`: the counter rises (R430) and the call's input sample is used up. -/
def endCall (s : State) : State :=
  { s with cycleCounter := s.cycleCounter + 1, inputs := s.inputs.tail }

/-- RDY as the Scheduler sees it (R35). -/
def State.stalled (s : State) : Bool := s.tia.wsyncHalt

/-- The longest stall in calls (R432; notes/assumptions/13.md). -/
def stallBound : Nat := 75

/-- The stalled calls before a cycle, at most `fuel` of them, and the device work of the call in which the CPU gets
its cycle (R430, R432). With `fuel = stallBound` RDY is released in the answer. -/
def awaitRdy : Nat → State → State
  | 0, s => tickDevices s
  | n + 1, s => if (tickDevices s).stalled then awaitRdy n (endCall (tickDevices s)) else tickDevices s

/-- Everything up to the CPU's part of the call that runs its next cycle. -/
def State.ready (s : State) : State := awaitRdy stallBound s

end Sys2Proof.Machine
end

