-- ==== Sys2Proof/Machine/Ops.lean ====
section
/-! DEFINITION. The named operations over memory and registers: the Bus (20_memory.md R60 to R74), one CPU cycle with
its Bus access (60_exceptions.md R430), the stack (00_scope.md R12), the status byte (10_state.md R24), taking the trap of
BRK and returning from it (R406, R408), raising `UnimplementedOpcode` (R401), and the CPU's `reset()` (R502). -/

namespace Sys2Proof.Machine

/-! ### The Bus -/

/-- The four targets of the decode (R62). -/
inductive BusTarget where
  | tia
  | ram (cell : Nat)
  | riot
  | cart (offset : Nat)
  deriving DecidableEq, Repr

/-- The 13 significant address bits (R61). -/
def busAddress (a : Word) : Nat := a.toNat % 8192

/-- The decode (R62 to R67): a partition by bits 12, 7 and 9. -/
def busTarget (a : Word) : BusTarget :=
  if a.getLsbD 12 then .cart (a.toNat % 4096)
  else if a.getLsbD 7 then
    if a.getLsbD 9 then .riot else .ram (a.toNat % 128)
  else .tia

/-- The next free value, where the spec fixes none (notes/assumptions/8.md). -/
def State.fresh (s : State) (k : Nat) : Byte := Config.freeByte (s.draws + k)

/-- A TIA read (R40, R74): under `TIA_READ_LOW_BITS = any` the undriven bits are a free value. -/
def readTia (a : Word) (s : State) : Byte × State :=
  (tiaByte (s.tia.read s.input (a.toNat % 16)) (s.cfg.tiaReadLow.getD ((s.fresh 0).setWidth 6)),
    s.withDraws (if s.cfg.tiaReadLow.isSome then s.draws else s.draws + 1))

/-- A RIOT I/O read (R67). -/
def readRiot (a : Word) (s : State) : Byte × State :=
  ((s.riot.read s.input a).1, s.withRiot (s.riot.read s.input a).2)

/-- A read in the cartridge window (R85, R88). -/
def readCart (o : Nat) (s : State) : Byte × State :=
  ((s.cart.read o (s.fresh 0, s.fresh 1)).1,
    (s.withCart (s.cart.read o (s.fresh 0, s.fresh 1)).2).withDraws
      (if s.cart.readsWritePort o then s.draws + 2 else s.draws))

/-- A read at the selected target, before the snoop. -/
def readTarget (a : Word) (s : State) : Byte × State :=
  match busTarget a with
  | .tia => readTia a s
  | .ram i => (Memory.read s.ram i, s)
  | .riot => readRiot a s
  | .cart o => readCart o s

/-- The cartridge's view of an access, after it (R85). -/
def snoopBus (a : Word) (d : Byte) (s : State) : State := s.withCart (s.cart.snoop (busAddress a) d)

/-- `MemRead(a, 1)` (R11): the byte and the machine after the read's side effects. -/
def memRead (a : Word) (s : State) : Byte × State :=
  ((readTarget a s).1, snoopBus a (readTarget a s).1 (readTarget a s).2)

/-- A write at the selected target, before the snoop. -/
def writeTarget (a : Word) (v : Byte) (s : State) : State :=
  match busTarget a with
  | .tia => s.withTia (s.tia.write s.cfg (a.toNat % 64) v)
  | .ram i => s.withRam (Memory.write s.ram i v)
  | .riot => s.withRiot (s.riot.write a v)
  | .cart o => s.withCart (s.cart.write o v)

/-- `MemWrite(a, 1, v)` (R11). -/
def memWrite (a : Word) (v : Byte) (s : State) : State := snoopBus a v (writeTarget a v s)

/-- A view of the byte at `a` without any side effect (R436), where a memory cell answers there: RIOT RAM, the ROM byte
or the RAM read port that the active bank shows. `none` at a device and at a RAM write port. -/
def peek (a : Word) (s : State) : Option Byte :=
  match busTarget a with
  | .tia => none
  | .ram i => some (Memory.read s.ram i)
  | .riot => none
  | .cart o =>
    match s.cart.locate o with
    | .rom i => some (Memory.read s.cart.rom i)
    | .readPort i => some (Memory.read s.cart.ram i)
    | .writePort _ => none

/-! ### One CPU cycle with its Bus access (R430, R520) -/

/-- The cycle that reads `a`: the stalled calls before it, the device work, the read, the end of the call. -/
def cycleRead (a : Word) (s : State) : Byte × State :=
  ((memRead a s.ready).1, endCall (memRead a s.ready).2)

/-- The cycle that reads `a` and discards the byte (R521). -/
def cycleDummy (a : Word) (s : State) : State := (cycleRead a s).2

/-- The cycle that writes `v` to `a`. -/
def cycleWrite (a : Word) (v : Byte) (s : State) : State := endCall (memWrite a v s.ready)

/-! ### Registers -/

/-- `PC <- (PC + 1)[15:0]` (R23). -/
def Cpu.incPc (c : Cpu) : Cpu := { c with pc := c.pc + 1 }

/-- `PC <- t`. -/
def Cpu.setPc (c : Cpu) (t : Word) : Cpu := { c with pc := t }

/-- `S <- S - 1` (R12). -/
def Cpu.decS (c : Cpu) : Cpu := { c with s := c.s - 1 }

/-- `S <- S + 1` (R12). -/
def Cpu.incS (c : Cpu) : Cpu := { c with s := c.s + 1 }

/-- The machine with its CPU registers changed by `f`. -/
def State.mapCpu (s : State) (f : Cpu → Cpu) : State := s.withCpu (f s.cpu)

/-- `P_byte(b) = {N, V, 1, b, D, I, Z, C}` (R24). -/
def Cpu.pByte (c : Cpu) (b : Bool) : Byte :=
  bit1 c.n ++ (bit1 c.v ++ (bit1 true ++ (bit1 b ++ (bit1 c.d ++ (bit1 c.i ++ (bit1 c.z ++ bit1 c.c))))))

/-- The flags from a pulled byte (R180, R259): bit 5 is ignored, bit 4 goes to the stored B. -/
def Cpu.setP (c : Cpu) (t : Byte) : Cpu :=
  { c with
    n := t.getLsbD 7, v := t.getLsbD 6, b := t.getLsbD 4, d := t.getLsbD 3, i := t.getLsbD 2, z := t.getLsbD 1,
    c := t.getLsbD 0 }

/-! ### The stack (R12) -/

/-- `Push(v)`, one cycle. -/
def push (v : Byte) (s : State) : State := (cycleWrite (stackPage s.cpu.s) v s).mapCpu Cpu.decS

/-- `Pull()`, one cycle. -/
def pull (s : State) : Byte × State :=
  cycleRead (stackPage (s.cpu.s + 1)) (s.mapCpu Cpu.incS)

/-! ### Exceptions -/

/-- Taking the one vectored trap, BRK's (R258, R406, R544 cycles 3 to 7), from a machine whose PC is the return
address: push PC high, PC low and the status byte with bits 5 and 4 set, set I and the stored B, load PC from
$FFFE/$FFFF low byte first. Nothing else changes: D, N, V, Z, C stay. -/
def trapEntry (s : State) : State :=
  let s1 := push (highByte s.cpu.pc) s
  let s2 := push (lowByte s.cpu.pc) s1
  let s3 := push (s.cpu.pByte true) s2
  let r4 := cycleRead 0xFFFE s3
  let r5 := cycleRead 0xFFFF r4.2
  r5.2.mapCpu fun c => { c with i := true, b := true, pc := wordOf r5.1 r4.1 }

/-- Returning from it, RTI (R259, R408, R545 cycles 3 to 6): a dummy stack read, then pull the status byte, PC low,
PC high; no 1 is added. -/
def trapReturn (s : State) : State :=
  let s1 := cycleDummy (stackPage s.cpu.s) s
  let p := pull s1
  let lo := pull (p.2.mapCpu fun c => c.setP p.1)
  let hi := pull lo.2
  hi.2.mapCpu fun c => c.setPc (wordOf hi.1 lo.1)

/-- `raise UnimplementedOpcode(pc, opcode)`: the record of R401; no register changes, nothing is pushed. -/
def raiseUnimplemented (pc : Word) (opcode : Byte) (s : State) : State :=
  s.withCpuFault (some ⟨pc, opcode⟩)

/-- The CPU is stuck: a recorded fault under `UNIMPL_POLICY = fatal` (R401, R33). -/
def State.stuck (s : State) : Bool := s.cpuFault.isSome && s.cfg.unimplPolicy == .fatal

/-! ### Reset -/

/-- The CPU's `reset()` (R501, R502): two Bus reads at the vector, low byte first, PC loaded, I and B cleared, the
instruction in progress abandoned, the fault record cleared. It is no `advance()`: no device ticks and the counter
stands (R504). Nothing else changes (R503) but what the two reads themselves do (notes/assumptions/24.md). -/
def cpuReset (s : State) : State :=
  let lo := memRead 0xFFFC s
  let hi := memRead 0xFFFD lo.2
  ((hi.2.mapCpu fun c => { c with pc := wordOf hi.1 lo.1, i := false, b := false }).withPipe Latches.idle).withCpuFault none

end Sys2Proof.Machine
end

