-- ==== Sys2Proof/Machine/Flags.lean ====
section
/-! DEFINITION. What each operation computes and which flags it writes (40_load_store.md to 46_flag_system.md): loads,
binary and decimal arithmetic, compares, logic, shifts, flag and transfer instructions, branch conditions. -/

namespace Sys2Proof.Machine

/-- `SetNZ(v)` (00_scope.md R9). -/
def Cpu.setNZ (c : Cpu) (v : Byte) : Cpu := { c with n := bit7 v, z := v == 0 }

/-! ### Addition and subtraction (R185 to R189) -/

/-- A result for A with the four flags that ADC and SBC write. -/
structure Alu where
  a : Byte
  n : Bool
  v : Bool
  z : Bool
  c : Bool
  deriving DecidableEq, Repr

/-- Writing it. D, I, B and the other registers stay. -/
def Cpu.withAlu (c : Cpu) (r : Alu) : Cpu := { c with a := r.a, n := r.n, v := r.v, z := r.z, c := r.c }

/-- ADC with D = 0 (R186). -/
def adcBinary (a m : Byte) (c : Bool) : Alu :=
  let sum := a.toNat + m.toNat + c.toNat
  let r := BitVec.ofNat 8 sum
  { a := r, n := bit7 r, v := bit7 ((a ^^^ r) &&& (m ^^^ r)), z := r == 0, c := decide (255 < sum) }

/-- ADC with D = 1 on the NMOS part (R187). -/
def adcDecimal (a m : Byte) (c : Bool) : Alu :=
  let lo := lowNibble a + lowNibble m + c.toNat
  let lo := if 9 < lo then (lo + 6) % 16 + 16 else lo
  let t := highNibblePart a + highNibblePart m + lo
  let t8 := BitVec.ofNat 8 t
  let t' := if 0xA0 ≤ t then t + 0x60 else t
  { a := BitVec.ofNat 8 t', n := bit7 t8, v := bit7 ((a ^^^ t8) &&& (m ^^^ t8)), z := (adcBinary a m c).z,
    c := decide (0x100 ≤ t') }

/-- SBC with D = 0 (R188). -/
def sbcBinary (a m : Byte) (c : Bool) : Alu :=
  let sum := a.toNat + (m ^^^ 0xFF).toNat + c.toNat
  let r := BitVec.ofNat 8 sum
  { a := r, n := bit7 r, v := bit7 ((a ^^^ r) &&& (a ^^^ m)), z := r == 0, c := decide (255 < sum) }

/-- The value SBC writes to A with D = 1 (R189). `%` of a negative integer is its two's-complement low digit. -/
def sbcDecimalResult (a m : Byte) (c : Bool) : Byte :=
  let lo : Int := (lowNibble a : Int) - lowNibble m + c.toNat - 1
  let lo : Int := if lo < 0 then (lo - 6) % 16 - 16 else lo
  let t : Int := (highNibblePart a : Int) - highNibblePart m + lo
  BitVec.ofInt 8 (if t < 0 then t - 0x60 else t)

/-- SBC with D = 1 on the NMOS part: the four flags are those of the binary subtraction (R189). -/
def sbcDecimal (a m : Byte) (c : Bool) : Alu := { sbcBinary a m c with a := sbcDecimalResult a m c }

/-- What ADC or SBC with D = 1 gives under `DECIMAL_FLAGS = any`, from the NMOS result (93_implementation_defined.md U2,
U3): N, V, Z are free values, and A and C too where an operand is not valid BCD (notes/assumptions/8.md). -/
def looseDecimal (s : State) (m : Byte) (r : Alu) : Alu where
  a := if validBcd s.cpu.a && validBcd m then r.a else s.fresh 1
  n := (s.fresh 0).getLsbD 0
  v := (s.fresh 0).getLsbD 1
  z := (s.fresh 0).getLsbD 2
  c := if validBcd s.cpu.a && validBcd m then r.c else (s.fresh 2).getLsbD 0

/-- ADC or SBC of operand `m`, by the D flag and `DECIMAL_FLAGS` (R186 to R189). -/
def addSubtract (binary decimal : Byte → Byte → Bool → Alu) (m : Byte) (s : State) : State :=
  if s.cpu.d then
    match s.cfg.decimalFlags with
    | .nmos => s.mapCpu fun c => c.withAlu (decimal c.a m c.c)
    | .any => (s.mapCpu fun c => c.withAlu (looseDecimal s m (decimal c.a m c.c))).withDraws (s.draws + 3)
  else s.mapCpu fun c => c.withAlu (binary c.a m c.c)

/-! ### Compares and BIT (R190 to R192, R204) -/

/-- A compare of register value `r` with `m`: always binary; V stays. -/
def Cpu.compare (c : Cpu) (r m : Byte) : Cpu :=
  { c with n := bit7 (r - m), z := r == m, c := decide (m.toNat ≤ r.toNat) }

/-- BIT (R204): N and V come from the operand itself. -/
def Cpu.bitTest (c : Cpu) (m : Byte) : Cpu :=
  { c with n := m.getLsbD 7, v := m.getLsbD 6, z := (c.a &&& m) == 0 }

/-! ### Instructions that read an operand -/

/-- The read instructions of R547. -/
inductive ReadOp where
  | lda | ldx | ldy | adc | sbc | and | ora | eor | cmp | cpx | cpy | bit
  deriving DecidableEq, Repr

/-- The effect of a read instruction on operand byte `m` (R161 to R163, R186 to R192, R201 to R204). -/
def ReadOp.apply (op : ReadOp) (m : Byte) (s : State) : State :=
  match op with
  | .lda => s.mapCpu fun c => { c with a := m }.setNZ m
  | .ldx => s.mapCpu fun c => { c with x := m }.setNZ m
  | .ldy => s.mapCpu fun c => { c with y := m }.setNZ m
  | .adc => addSubtract adcBinary adcDecimal m s
  | .sbc => addSubtract sbcBinary sbcDecimal m s
  | .and => s.mapCpu fun c => { c with a := c.a &&& m }.setNZ (c.a &&& m)
  | .ora => s.mapCpu fun c => { c with a := c.a ||| m }.setNZ (c.a ||| m)
  | .eor => s.mapCpu fun c => { c with a := c.a ^^^ m }.setNZ (c.a ^^^ m)
  | .cmp => s.mapCpu fun c => c.compare c.a m
  | .cpx => s.mapCpu fun c => c.compare c.x m
  | .cpy => s.mapCpu fun c => c.compare c.y m
  | .bit => s.mapCpu fun c => c.bitTest m

/-! ### Stores -/

/-- The register a store writes (R164 to R166). -/
inductive StoreReg where
  | a | x | y
  deriving DecidableEq, Repr

/-- Its value. -/
def StoreReg.value (r : StoreReg) (c : Cpu) : Byte :=
  match r with
  | .a => c.a
  | .x => c.x
  | .y => c.y

/-! ### Shifts, rotates, increments (R211 to R216) -/

/-- The read-modify-write instructions of R547. -/
inductive RmwOp where
  | asl | lsr | rol | ror | inc | dec
  deriving DecidableEq, Repr

/-- The new value from the old one and the carry before. -/
def RmwOp.value (op : RmwOp) (c : Bool) (v : Byte) : Byte :=
  match op with
  | .asl => v <<< 1
  | .lsr => v >>> 1
  | .rol => v.extractLsb' 0 7 ++ bit1 c
  | .ror => bit1 c ++ v.extractLsb' 1 7
  | .inc => v + 1
  | .dec => v - 1

/-- The carry after: the bit shifted out; INC and DEC leave it. -/
def RmwOp.carry (op : RmwOp) (c : Bool) (v : Byte) : Bool :=
  match op with
  | .asl => v.getLsbD 7
  | .lsr => v.getLsbD 0
  | .rol => v.getLsbD 7
  | .ror => v.getLsbD 0
  | .inc => c
  | .dec => c

/-- The flags after an operation on old value `v`: C, then N and Z from the new value. V stays. -/
def Cpu.rmwFlags (c : Cpu) (op : RmwOp) (v : Byte) : Cpu :=
  { c with c := op.carry c.c v }.setNZ (op.value c.c v)

/-- The accumulator form (R211 to R214). -/
def Cpu.rmwAcc (c : Cpu) (op : RmwOp) : Cpu := { c.rmwFlags op c.a with a := op.value c.c c.a }

/-! ### Implied instructions of two cycles (R171 to R176, R217 to R220, R251 to R257, R260) -/

/-- The implied instructions of R522. -/
inductive ImpliedOp where
  | clc | sec | cli | sei | cld | sed | clv | nop | tax | tay | txa | tya | tsx | txs | inx | iny | dex | dey
  deriving DecidableEq, Repr

/-- Their effect on the registers. TXS alone of the transfers sets no flag (R176). -/
def ImpliedOp.apply (op : ImpliedOp) (c : Cpu) : Cpu :=
  match op with
  | .clc => { c with c := false }
  | .sec => { c with c := true }
  | .cli => { c with i := false }
  | .sei => { c with i := true }
  | .cld => { c with d := false }
  | .sed => { c with d := true }
  | .clv => { c with v := false }
  | .nop => c
  | .tax => { c with x := c.a }.setNZ c.a
  | .tay => { c with y := c.a }.setNZ c.a
  | .txa => { c with a := c.x }.setNZ c.x
  | .tya => { c with a := c.y }.setNZ c.y
  | .tsx => { c with x := c.s }.setNZ c.s
  | .txs => { c with s := c.x }
  | .inx => { c with x := c.x + 1 }.setNZ (c.x + 1)
  | .iny => { c with y := c.y + 1 }.setNZ (c.y + 1)
  | .dex => { c with x := c.x - 1 }.setNZ (c.x - 1)
  | .dey => { c with y := c.y - 1 }.setNZ (c.y - 1)

/-! ### Branch conditions (R231 to R238) -/

/-- The eight branches. -/
inductive Cond where
  | bpl | bmi | bvc | bvs | bcc | bcs | bne | beq
  deriving DecidableEq, Repr

/-- Whether the branch is taken. -/
def Cond.holds (b : Cond) (c : Cpu) : Bool :=
  match b with
  | .bpl => !c.n
  | .bmi => c.n
  | .bvc => !c.v
  | .bvs => c.v
  | .bcc => !c.c
  | .bcs => c.c
  | .bne => !c.z
  | .beq => c.z

/-! ### Pushes and pulls (R177 to R180) -/

/-- What PHA, PHP push and PLA, PLP pull. -/
inductive PushReg where
  | a | p
  deriving DecidableEq, Repr

/-- The byte pushed; PHP's always has bits 5 and 4 set (R177). -/
def PushReg.value (r : PushReg) (c : Cpu) : Byte :=
  match r with
  | .a => c.a
  | .p => c.pByte true

/-- The effect of the byte pulled: PLA sets A, N, Z; PLP the flags and the stored B (R179, R180). -/
def PushReg.pulled (r : PushReg) (t : Byte) (c : Cpu) : Cpu :=
  match r with
  | .a => { c with a := t }.setNZ t
  | .p => c.setP t

end Sys2Proof.Machine
end

