-- ==== Sys2Proof/Machine/Operands.lean ====
section
/-! DEFINITION. The operand forms: what each addressing mode reads on its way to the operand and where the operand lies
(30_encoding.md R122 to R134; 70_reset_and_hazards.md R523 to R537). The cycles that fetch the operand bytes are the
fetch's (Machine/Fetch.lean). -/

namespace Sys2Proof.Machine

/-- The memory modes with their operand bytes. -/
inductive MemOperand where
  /-- Zero page (R127). -/
  | zp (b : Byte)
  /-- Zero page,X (R125). -/
  | zpx (b : Byte)
  /-- Zero page,Y (R126). -/
  | zpy (b : Byte)
  /-- Absolute (R128). -/
  | abs (a : Word)
  /-- Absolute,X (R129). -/
  | absx (a : Word)
  /-- Absolute,Y (R129). -/
  | absy (a : Word)
  /-- Indexed indirect (R131). -/
  | indx (b : Byte)
  /-- Indirect indexed (R132). -/
  | indy (b : Byte)
  deriving DecidableEq, Repr

/-- The operand of a read instruction: immediate (R124) or in memory. -/
inductive ReadOperand where
  | imm (v : Byte)
  | mem (o : MemOperand)
  deriving DecidableEq, Repr

/-- The 16-bit pointer read from two page-zero cells, the pointer's increment wrapping inside page zero (R131, R132). -/
def readPointer (z : Byte) (s : State) : Word × State :=
  let lo := cycleRead (zeroPage z) s
  let hi := cycleRead (zeroPage (z + 1)) lo.2
  (wordOf hi.1 lo.1, hi.2)

/-- The reads a mode makes before any correction of the high byte: the base address, the index still to be added, and
the machine after those reads. A mode without correction has index 0 and its address as base. -/
def MemOperand.base (o : MemOperand) (s : State) : Word × Byte × State :=
  match o with
  | .zp b => (zeroPage b, 0, s)
  | .zpx b => (zeroPage (b + s.cpu.x), 0, cycleDummy (zeroPage b) s)
  | .zpy b => (zeroPage (b + s.cpu.y), 0, cycleDummy (zeroPage b) s)
  | .abs a => (a, 0, s)
  | .absx a => (a, s.cpu.x, s)
  | .absy a => (a, s.cpu.y, s)
  | .indx b =>
    let p := readPointer (b + s.cpu.x) (cycleDummy (zeroPage b) s)
    (p.1, 0, p.2)
  | .indy b =>
    let p := readPointer b s
    (p.1, s.cpu.y, p.2)

/-- Whether the mode adds an index that can carry into the high byte (R546). -/
def MemOperand.corrects : MemOperand → Bool
  | .zp _ => false
  | .zpx _ => false
  | .zpy _ => false
  | .abs _ => false
  | .absx _ => true
  | .absy _ => true
  | .indx _ => false
  | .indy _ => true

/-- The effective address for a store or a read-modify-write, and the machine after the cycles that lead to it. A mode
that corrects always reads the uncorrected address first (R532, R533, R537). -/
def MemOperand.address (o : MemOperand) (s : State) : Word × State :=
  let b := o.base s
  if o.corrects then (indexed b.1 b.2.1, cycleDummy (uncorrected b.1 b.2.1) b.2.2) else (b.1, b.2.2)

/-- The operand byte of a read instruction (R160). A mode that corrects reads the uncorrected address and, only if the
index carries, the effective address after it (R531, R536). -/
def MemOperand.read (o : MemOperand) (s : State) : Byte × State :=
  let b := o.base s
  if o.corrects && crossesPage b.1 b.2.1 then
    cycleRead (indexed b.1 b.2.1) (cycleDummy (uncorrected b.1 b.2.1) b.2.2)
  else if o.corrects then cycleRead (uncorrected b.1 b.2.1) b.2.2
  else cycleRead b.1 b.2.2

/-- The operand byte of a read instruction; an immediate was fetched with the instruction. -/
def ReadOperand.read (o : ReadOperand) (s : State) : Byte × State :=
  match o with
  | .imm v => (v, s)
  | .mem m => m.read s

end Sys2Proof.Machine
end

