-- ==== Sys2Proof/Machine/Operations.lean ====
section
/-! DEFINITION. The classes of instructions as whole operations, each from the end of the fetch to the last cycle
(70_reset_and_hazards.md R522 to R545): every Bus access in order, then the effect on registers and flags. -/

namespace Sys2Proof.Machine

/-- A read instruction: the operand, then its effect (R160, R185, R200). -/
def runRead (op : ReadOp) (o : ReadOperand) (s : State) : State :=
  op.apply (o.read s).1 (o.read s).2

/-- A store: one write, on the last cycle (R160, R525). -/
def runStore (r : StoreReg) (o : MemOperand) (s : State) : State :=
  cycleWrite (o.address s).1 (r.value s.cpu) (o.address s).2

/-- A read-modify-write instruction: read, write back unchanged, write the result (R210, R527). -/
def runRmw (op : RmwOp) (o : MemOperand) (s : State) : State :=
  let ea := (o.address s).1
  let d := cycleRead ea (o.address s).2
  let s1 := cycleWrite ea d.1 d.2
  let s2 := cycleWrite ea (op.value s.cpu.c d.1) s1
  s2.mapCpu fun c => c.rmwFlags op d.1

/-- The accumulator form (R522). -/
def runAcc (op : RmwOp) (s : State) : State := (cycleDummy s.cpu.pc s).mapCpu fun c => c.rmwAcc op

/-- An implied instruction of two cycles (R522). -/
def runImplied (op : ImpliedOp) (s : State) : State := (cycleDummy s.cpu.pc s).mapCpu op.apply

/-- A branch target: PC after the branch plus the signed displacement (R133, R230). -/
def branchTarget (pc : Word) (d : Byte) : Word := pc + sext16 d

/-- A conditional branch (R230, R538). -/
def runBranch (b : Cond) (d : Byte) (s : State) : State :=
  let t := branchTarget s.cpu.pc d
  if b.holds s.cpu then
    let s1 := cycleDummy s.cpu.pc s
    let s2 :=
      if highByte t = highByte s.cpu.pc then s1
      else cycleDummy (wordOf (highByte s.cpu.pc) (lowByte t)) s1
    s2.mapCpu fun c => c.setPc t
  else s

/-- JMP absolute (R239, R539). -/
def runJmpAbs (a : Word) (s : State) : State := s.mapCpu fun c => c.setPc a

/-- JMP indirect: the address of the target's high byte wraps inside the page (R130, R239, R540). -/
def runJmpInd (p : Word) (s : State) : State :=
  let lo := cycleRead p s
  let hi := cycleRead (wordOf (highByte p) (lowByte p + 1)) lo.2
  hi.2.mapCpu fun c => c.setPc (wordOf hi.1 lo.1)

/-- Cycles 3 to 5 of JSR, PC being the address of its last byte: a dummy stack read and the pushes of PC (R240, R541). -/
def jsrPrelude (s : State) : State :=
  push (lowByte s.cpu.pc) (push (highByte s.cpu.pc) (cycleDummy (stackPage s.cpu.s) s))

/-- JSR from cycle 3 on. The high operand byte is read on cycle 6, after the pushes (R240, R541); the fetch looked that
byte up to name the instruction (notes/assumptions/11.md), so the value read here is the high byte of `a`. -/
def runJsr (a : Word) (s : State) : State :=
  (cycleDummy s.cpu.pc (jsrPrelude s)).mapCpu fun c => c.setPc a

/-- RTS (R241, R542). -/
def runRts (s : State) : State :=
  let s1 := cycleDummy (stackPage s.cpu.s) (cycleDummy s.cpu.pc s)
  let lo := pull s1
  let hi := pull lo.2
  let t := wordOf hi.1 lo.1
  (cycleDummy t hi.2).mapCpu fun c => c.setPc (t + 1)

/-- PHA, PHP (R177, R178, R543). -/
def runPush (r : PushReg) (s : State) : State := push (r.value s.cpu) (cycleDummy s.cpu.pc s)

/-- PLA, PLP (R179, R180, R543). -/
def runPull (r : PushReg) (s : State) : State :=
  let p := pull (cycleDummy (stackPage s.cpu.s) (cycleDummy s.cpu.pc s))
  p.2.mapCpu fun c => r.pulled p.1 c

/-- BRK: the signature byte is read and skipped, then the trap is taken (R258, R544). -/
def runBrk (s : State) : State := trapEntry ((cycleDummy s.cpu.pc s).mapCpu Cpu.incPc)

/-- RTI (R259, R545). -/
def runRti (s : State) : State := trapReturn (cycleDummy s.cpu.pc s)

/-- An undocumented opcode, PC already past it: the fault is recorded with the opcode's address (R150, R401). Under
`fatal` the instruction ends there; under `skip` a dummy read at PC follows, as for NOP (R153; notes/assumptions/10.md). -/
def undocumented (opcode : Byte) (s : State) : State :=
  let s1 := raiseUnimplemented (s.cpu.pc - 1) opcode s
  match s.cfg.unimplPolicy with
  | .fatal => s1
  | .skip => cycleDummy s1.cpu.pc s1

end Sys2Proof.Machine
end

