-- ==== Sys2Proof/Machine/Shape.lean ====
section
/-! DEFINITION. The class of each instruction in the tables of 70_reset_and_hazards.md R522 to R547: which schedule of
Bus accesses it follows, with which operation and which operand. The cycle machine (Machine/Cycle.lean) selects a
schedule by it, and the cycle table of R547 is written over it. -/

namespace Sys2Proof.Machine

/-- The classes of R522 to R545. -/
inductive Shape where
  /-- R522. -/
  | implied (op : ImpliedOp)
  /-- R522, accumulator mode. -/
  | acc (op : RmwOp)
  /-- R523, R524, R528, R529, R531, R534, R536. -/
  | read (op : ReadOp) (o : ReadOperand)
  /-- R525, R528, R529, R532, R535, R537. -/
  | store (r : StoreReg) (o : MemOperand)
  /-- R526, R527, R528, R530, R533. -/
  | rmw (op : RmwOp) (o : MemOperand)
  /-- R538. -/
  | branch (c : Cond) (d : Byte)
  /-- R539. -/
  | jmpAbs (a : Word)
  /-- R540. -/
  | jmpInd (a : Word)
  /-- R541. -/
  | jsr (a : Word)
  /-- R542. -/
  | rts
  /-- R543. -/
  | push (r : PushReg)
  /-- R543. -/
  | pull (r : PushReg)
  /-- R544. -/
  | brk
  /-- R545. -/
  | rti
  /-- R150. -/
  | undocumented (opcode : Byte)
  deriving DecidableEq, Repr

end Sys2Proof.Machine

namespace Sys2Proof

/-- The class of an instruction (R140 with R522 to R545). -/
def Instr.shape : Instr → Machine.Shape
  | .brk => .brk
  | .oraIndx b => .read .ora (.mem (.indx b))
  | .oraZp b => .read .ora (.mem (.zp b))
  | .aslZp b => .rmw .asl (.zp b)
  | .php => .push .p
  | .oraImm v => .read .ora (.imm v)
  | .aslAcc => .acc .asl
  | .oraAbs a => .read .ora (.mem (.abs a))
  | .aslAbs a => .rmw .asl (.abs a)
  | .bpl d => .branch .bpl d
  | .oraIndy b => .read .ora (.mem (.indy b))
  | .oraZpx b => .read .ora (.mem (.zpx b))
  | .aslZpx b => .rmw .asl (.zpx b)
  | .clc => .implied .clc
  | .oraAbsy a => .read .ora (.mem (.absy a))
  | .oraAbsx a => .read .ora (.mem (.absx a))
  | .aslAbsx a => .rmw .asl (.absx a)
  | .jsr a => .jsr a
  | .andIndx b => .read .and (.mem (.indx b))
  | .bitZp b => .read .bit (.mem (.zp b))
  | .andZp b => .read .and (.mem (.zp b))
  | .rolZp b => .rmw .rol (.zp b)
  | .plp => .pull .p
  | .andImm v => .read .and (.imm v)
  | .rolAcc => .acc .rol
  | .bitAbs a => .read .bit (.mem (.abs a))
  | .andAbs a => .read .and (.mem (.abs a))
  | .rolAbs a => .rmw .rol (.abs a)
  | .bmi d => .branch .bmi d
  | .andIndy b => .read .and (.mem (.indy b))
  | .andZpx b => .read .and (.mem (.zpx b))
  | .rolZpx b => .rmw .rol (.zpx b)
  | .sec => .implied .sec
  | .andAbsy a => .read .and (.mem (.absy a))
  | .andAbsx a => .read .and (.mem (.absx a))
  | .rolAbsx a => .rmw .rol (.absx a)
  | .rti => .rti
  | .eorIndx b => .read .eor (.mem (.indx b))
  | .eorZp b => .read .eor (.mem (.zp b))
  | .lsrZp b => .rmw .lsr (.zp b)
  | .pha => .push .a
  | .eorImm v => .read .eor (.imm v)
  | .lsrAcc => .acc .lsr
  | .jmpAbs a => .jmpAbs a
  | .eorAbs a => .read .eor (.mem (.abs a))
  | .lsrAbs a => .rmw .lsr (.abs a)
  | .bvc d => .branch .bvc d
  | .eorIndy b => .read .eor (.mem (.indy b))
  | .eorZpx b => .read .eor (.mem (.zpx b))
  | .lsrZpx b => .rmw .lsr (.zpx b)
  | .cli => .implied .cli
  | .eorAbsy a => .read .eor (.mem (.absy a))
  | .eorAbsx a => .read .eor (.mem (.absx a))
  | .lsrAbsx a => .rmw .lsr (.absx a)
  | .rts => .rts
  | .adcIndx b => .read .adc (.mem (.indx b))
  | .adcZp b => .read .adc (.mem (.zp b))
  | .rorZp b => .rmw .ror (.zp b)
  | .pla => .pull .a
  | .adcImm v => .read .adc (.imm v)
  | .rorAcc => .acc .ror
  | .jmpInd a => .jmpInd a
  | .adcAbs a => .read .adc (.mem (.abs a))
  | .rorAbs a => .rmw .ror (.abs a)
  | .bvs d => .branch .bvs d
  | .adcIndy b => .read .adc (.mem (.indy b))
  | .adcZpx b => .read .adc (.mem (.zpx b))
  | .rorZpx b => .rmw .ror (.zpx b)
  | .sei => .implied .sei
  | .adcAbsy a => .read .adc (.mem (.absy a))
  | .adcAbsx a => .read .adc (.mem (.absx a))
  | .rorAbsx a => .rmw .ror (.absx a)
  | .staIndx b => .store .a (.indx b)
  | .styZp b => .store .y (.zp b)
  | .staZp b => .store .a (.zp b)
  | .stxZp b => .store .x (.zp b)
  | .dey => .implied .dey
  | .txa => .implied .txa
  | .styAbs a => .store .y (.abs a)
  | .staAbs a => .store .a (.abs a)
  | .stxAbs a => .store .x (.abs a)
  | .bcc d => .branch .bcc d
  | .staIndy b => .store .a (.indy b)
  | .styZpx b => .store .y (.zpx b)
  | .staZpx b => .store .a (.zpx b)
  | .stxZpy b => .store .x (.zpy b)
  | .tya => .implied .tya
  | .staAbsy a => .store .a (.absy a)
  | .txs => .implied .txs
  | .staAbsx a => .store .a (.absx a)
  | .ldyImm v => .read .ldy (.imm v)
  | .ldaIndx b => .read .lda (.mem (.indx b))
  | .ldxImm v => .read .ldx (.imm v)
  | .ldyZp b => .read .ldy (.mem (.zp b))
  | .ldaZp b => .read .lda (.mem (.zp b))
  | .ldxZp b => .read .ldx (.mem (.zp b))
  | .tay => .implied .tay
  | .ldaImm v => .read .lda (.imm v)
  | .tax => .implied .tax
  | .ldyAbs a => .read .ldy (.mem (.abs a))
  | .ldaAbs a => .read .lda (.mem (.abs a))
  | .ldxAbs a => .read .ldx (.mem (.abs a))
  | .bcs d => .branch .bcs d
  | .ldaIndy b => .read .lda (.mem (.indy b))
  | .ldyZpx b => .read .ldy (.mem (.zpx b))
  | .ldaZpx b => .read .lda (.mem (.zpx b))
  | .ldxZpy b => .read .ldx (.mem (.zpy b))
  | .clv => .implied .clv
  | .ldaAbsy a => .read .lda (.mem (.absy a))
  | .tsx => .implied .tsx
  | .ldyAbsx a => .read .ldy (.mem (.absx a))
  | .ldaAbsx a => .read .lda (.mem (.absx a))
  | .ldxAbsy a => .read .ldx (.mem (.absy a))
  | .cpyImm v => .read .cpy (.imm v)
  | .cmpIndx b => .read .cmp (.mem (.indx b))
  | .cpyZp b => .read .cpy (.mem (.zp b))
  | .cmpZp b => .read .cmp (.mem (.zp b))
  | .decZp b => .rmw .dec (.zp b)
  | .iny => .implied .iny
  | .cmpImm v => .read .cmp (.imm v)
  | .dex => .implied .dex
  | .cpyAbs a => .read .cpy (.mem (.abs a))
  | .cmpAbs a => .read .cmp (.mem (.abs a))
  | .decAbs a => .rmw .dec (.abs a)
  | .bne d => .branch .bne d
  | .cmpIndy b => .read .cmp (.mem (.indy b))
  | .cmpZpx b => .read .cmp (.mem (.zpx b))
  | .decZpx b => .rmw .dec (.zpx b)
  | .cld => .implied .cld
  | .cmpAbsy a => .read .cmp (.mem (.absy a))
  | .cmpAbsx a => .read .cmp (.mem (.absx a))
  | .decAbsx a => .rmw .dec (.absx a)
  | .cpxImm v => .read .cpx (.imm v)
  | .sbcIndx b => .read .sbc (.mem (.indx b))
  | .cpxZp b => .read .cpx (.mem (.zp b))
  | .sbcZp b => .read .sbc (.mem (.zp b))
  | .incZp b => .rmw .inc (.zp b)
  | .inx => .implied .inx
  | .sbcImm v => .read .sbc (.imm v)
  | .nop => .implied .nop
  | .cpxAbs a => .read .cpx (.mem (.abs a))
  | .sbcAbs a => .read .sbc (.mem (.abs a))
  | .incAbs a => .rmw .inc (.abs a)
  | .beq d => .branch .beq d
  | .sbcIndy b => .read .sbc (.mem (.indy b))
  | .sbcZpx b => .read .sbc (.mem (.zpx b))
  | .incZpx b => .rmw .inc (.zpx b)
  | .sed => .implied .sed
  | .sbcAbsy a => .read .sbc (.mem (.absy a))
  | .sbcAbsx a => .read .sbc (.mem (.absx a))
  | .incAbsx a => .rmw .inc (.absx a)
  | .undoc02 => .undocumented 0x02
  | .undoc03 => .undocumented 0x03
  | .undoc04 => .undocumented 0x04
  | .undoc07 => .undocumented 0x07
  | .undoc0B => .undocumented 0x0B
  | .undoc0C => .undocumented 0x0C
  | .undoc0F => .undocumented 0x0F
  | .undoc12 => .undocumented 0x12
  | .undoc13 => .undocumented 0x13
  | .undoc14 => .undocumented 0x14
  | .undoc17 => .undocumented 0x17
  | .undoc1A => .undocumented 0x1A
  | .undoc1B => .undocumented 0x1B
  | .undoc1C => .undocumented 0x1C
  | .undoc1F => .undocumented 0x1F
  | .undoc22 => .undocumented 0x22
  | .undoc23 => .undocumented 0x23
  | .undoc27 => .undocumented 0x27
  | .undoc2B => .undocumented 0x2B
  | .undoc2F => .undocumented 0x2F
  | .undoc32 => .undocumented 0x32
  | .undoc33 => .undocumented 0x33
  | .undoc34 => .undocumented 0x34
  | .undoc37 => .undocumented 0x37
  | .undoc3A => .undocumented 0x3A
  | .undoc3B => .undocumented 0x3B
  | .undoc3C => .undocumented 0x3C
  | .undoc3F => .undocumented 0x3F
  | .undoc42 => .undocumented 0x42
  | .undoc43 => .undocumented 0x43
  | .undoc44 => .undocumented 0x44
  | .undoc47 => .undocumented 0x47
  | .undoc4B => .undocumented 0x4B
  | .undoc4F => .undocumented 0x4F
  | .undoc52 => .undocumented 0x52
  | .undoc53 => .undocumented 0x53
  | .undoc54 => .undocumented 0x54
  | .undoc57 => .undocumented 0x57
  | .undoc5A => .undocumented 0x5A
  | .undoc5B => .undocumented 0x5B
  | .undoc5C => .undocumented 0x5C
  | .undoc5F => .undocumented 0x5F
  | .undoc62 => .undocumented 0x62
  | .undoc63 => .undocumented 0x63
  | .undoc64 => .undocumented 0x64
  | .undoc67 => .undocumented 0x67
  | .undoc6B => .undocumented 0x6B
  | .undoc6F => .undocumented 0x6F
  | .undoc72 => .undocumented 0x72
  | .undoc73 => .undocumented 0x73
  | .undoc74 => .undocumented 0x74
  | .undoc77 => .undocumented 0x77
  | .undoc7A => .undocumented 0x7A
  | .undoc7B => .undocumented 0x7B
  | .undoc7C => .undocumented 0x7C
  | .undoc7F => .undocumented 0x7F
  | .undoc80 => .undocumented 0x80
  | .undoc82 => .undocumented 0x82
  | .undoc83 => .undocumented 0x83
  | .undoc87 => .undocumented 0x87
  | .undoc89 => .undocumented 0x89
  | .undoc8B => .undocumented 0x8B
  | .undoc8F => .undocumented 0x8F
  | .undoc92 => .undocumented 0x92
  | .undoc93 => .undocumented 0x93
  | .undoc97 => .undocumented 0x97
  | .undoc9B => .undocumented 0x9B
  | .undoc9C => .undocumented 0x9C
  | .undoc9E => .undocumented 0x9E
  | .undoc9F => .undocumented 0x9F
  | .undocA3 => .undocumented 0xA3
  | .undocA7 => .undocumented 0xA7
  | .undocAB => .undocumented 0xAB
  | .undocAF => .undocumented 0xAF
  | .undocB2 => .undocumented 0xB2
  | .undocB3 => .undocumented 0xB3
  | .undocB7 => .undocumented 0xB7
  | .undocBB => .undocumented 0xBB
  | .undocBF => .undocumented 0xBF
  | .undocC2 => .undocumented 0xC2
  | .undocC3 => .undocumented 0xC3
  | .undocC7 => .undocumented 0xC7
  | .undocCB => .undocumented 0xCB
  | .undocCF => .undocumented 0xCF
  | .undocD2 => .undocumented 0xD2
  | .undocD3 => .undocumented 0xD3
  | .undocD4 => .undocumented 0xD4
  | .undocD7 => .undocumented 0xD7
  | .undocDA => .undocumented 0xDA
  | .undocDB => .undocumented 0xDB
  | .undocDC => .undocumented 0xDC
  | .undocDF => .undocumented 0xDF
  | .undocE2 => .undocumented 0xE2
  | .undocE3 => .undocumented 0xE3
  | .undocE7 => .undocumented 0xE7
  | .undocEB => .undocumented 0xEB
  | .undocEF => .undocumented 0xEF
  | .undocF2 => .undocumented 0xF2
  | .undocF3 => .undocumented 0xF3
  | .undocF4 => .undocumented 0xF4
  | .undocF7 => .undocumented 0xF7
  | .undocFA => .undocumented 0xFA
  | .undocFB => .undocumented 0xFB
  | .undocFC => .undocumented 0xFC
  | .undocFF => .undocumented 0xFF

end Sys2Proof

namespace Sys2Proof.Machine

/-- The class of an opcode byte; its operand data, not fetched yet, is of no meaning. -/
def shapeOfOpcode (op : Byte) : Shape := (instrOf op 0 0).shape

/-- How many operand bytes a memory mode has (R120). -/
def MemOperand.operandBytes : MemOperand → Nat
  | .zp _ => 1
  | .zpx _ => 1
  | .zpy _ => 1
  | .abs _ => 2
  | .absx _ => 2
  | .absy _ => 2
  | .indx _ => 1
  | .indy _ => 1

/-- Cycles of a memory mode before its data access, a read instruction that crosses no page being one less in `absx`,
`absy`, `indy` (R547). The opcode fetch is counted. -/
def MemOperand.addressCycles : MemOperand → Nat
  | .zp _ => 2
  | .zpx _ => 3
  | .zpy _ => 3
  | .abs _ => 3
  | .absx _ => 4
  | .absy _ => 4
  | .indx _ => 5
  | .indy _ => 5

/-- The base cycle count of R547's table: no page crossed, no branch taken; an undocumented opcode under `fatal`. -/
def Shape.baseCycles : Shape → Nat
  | .implied _ => 2
  | .acc _ => 2
  | .read _ (.imm _) => 2
  | .read _ (.mem (.absx _)) => 4
  | .read _ (.mem (.absy _)) => 4
  | .read _ (.mem (.indy _)) => 5
  | .read _ (.mem o) => o.addressCycles + 1
  | .store _ o => o.addressCycles + 1
  | .rmw _ o => o.addressCycles + 3
  | .branch _ _ => 2
  | .jmpAbs _ => 3
  | .jmpInd _ => 5
  | .jsr _ => 6
  | .rts => 6
  | .push _ => 3
  | .pull _ => 4
  | .brk => 7
  | .rti => 6
  | .undocumented _ => 1

end Sys2Proof.Machine
end

