-- ==== Sys2Proof/Machine/Cycle.lean ====
section
/-! DEFINITION. The machine cycle by cycle: `step_cycle()` with the latches of 10_state.md R32 and one Bus access a
cycle (70_reset_and_hazards.md R520 to R545), `advance()` (60_exceptions.md R430), `single_step()` (R437) and `run_until`
(R434). Machine/Step.lean runs whole instructions; that the two agree is a statement of this row. -/

namespace Sys2Proof.Machine

/-! ### Pieces of a cycle -/

/-- The machine with its latches changed. -/
def State.mapPipe (s : State) (f : Latches → Latches) : State := s.withPipe (f s.pipe)

/-- One more cycle of the instruction is consumed. -/
def continueInstr (s : State) : State := s.mapPipe fun p => { p with tcyc := p.tcyc + 1 }

/-- The last cycle: `tcyc` returns to 0 (R520). -/
def finishInstr (s : State) : State := s.withPipe Latches.idle

/-- A read whose byte is discarded (R521). -/
def discard (a : Word) (s : State) : State := (memRead a s).2

/-- The read of an operand byte at PC with `PC++`. -/
def operandRead (s : State) : Byte × State :=
  ((memRead s.cpu.pc s).1, (memRead s.cpu.pc s).2.mapCpu Cpu.incPc)

/-- The write half of a push: store at `{$01, S}`, then `S <- S - 1`. -/
def pushAccess (v : Byte) (s : State) : State := (memWrite (stackPage s.cpu.s) v s).mapCpu Cpu.decS

/-- A stack read at `{$01, S}`. -/
def stackRead (s : State) : Byte × State := memRead (stackPage s.cpu.s) s

/-! ### Addressing cycles -/

/-- The index register a correcting mode adds. -/
def MemOperand.index (o : MemOperand) (c : Cpu) : Byte :=
  match o with
  | .zp _ => 0
  | .zpx _ => c.x
  | .zpy _ => c.y
  | .abs _ => 0
  | .absx _ => c.x
  | .absy _ => c.y
  | .indx _ => c.x
  | .indy _ => c.y

/-- The effective address from the latches, once the addressing cycles are done. -/
def MemOperand.effective (o : MemOperand) (s : State) : Word :=
  let base := wordOf s.pipe.hi s.pipe.lo
  match o with
  | .zp _ => zeroPage s.pipe.lo
  | .zpx _ => zeroPage (s.pipe.lo + s.cpu.x)
  | .zpy _ => zeroPage (s.pipe.lo + s.cpu.y)
  | .abs _ => base
  | .absx _ => indexed base s.cpu.x
  | .absy _ => indexed base s.cpu.y
  | .indx _ => base
  | .indy _ => indexed base s.cpu.y

/-- Fetching an operand byte into a latch. -/
def latchOperand (f : Latches → Byte → Latches) (s : State) : State :=
  continueInstr ((operandRead s).2.mapPipe fun p => f p (operandRead s).1)

/-- Reading a byte at `a` into a latch. -/
def latchRead (f : Latches → Byte → Latches) (a : Word) (s : State) : State :=
  continueInstr ((memRead a s).2.mapPipe fun p => f p (memRead a s).1)

/-- Latching the high byte of the base, with `fix` for a mode that adds index `idx` to it (R531, R536). -/
def latchHigh (corrects : Bool) (idx : Byte) (p : Latches) (v : Byte) : Latches :=
  { p with hi := v, fix := corrects && crossesPage (wordOf v p.lo) idx }

/-- Addressing cycle `n` (2 to `addressCycles`) of a memory mode (R524 to R537). -/
def MemOperand.addressCycle (o : MemOperand) (n : Nat) (s : State) : State :=
  let low : Latches → Byte → Latches := fun p v => { p with lo := v }
  let pointer : Latches → Byte → Latches := fun p v => { p with ptr := v }
  let high := latchHigh o.corrects (o.index s.cpu)
  let u := uncorrected (wordOf s.pipe.hi s.pipe.lo) (o.index s.cpu)
  match o, n with
  | .zp _, _ => latchOperand low s
  | .zpx _, 2 => latchOperand low s
  | .zpx _, _ => continueInstr (discard (zeroPage s.pipe.lo) s)
  | .zpy _, 2 => latchOperand low s
  | .zpy _, _ => continueInstr (discard (zeroPage s.pipe.lo) s)
  | .abs _, 2 => latchOperand low s
  | .abs _, _ => latchOperand high s
  | .absx _, 2 => latchOperand low s
  | .absx _, 3 => latchOperand high s
  | .absx _, _ => continueInstr (discard u s)
  | .absy _, 2 => latchOperand low s
  | .absy _, 3 => latchOperand high s
  | .absy _, _ => continueInstr (discard u s)
  | .indx _, 2 => latchOperand pointer s
  | .indx _, 3 => continueInstr (discard (zeroPage s.pipe.ptr) s)
  | .indx _, 4 => latchRead low (zeroPage (s.pipe.ptr + s.cpu.x)) s
  | .indx _, _ => latchRead high (zeroPage (s.pipe.ptr + s.cpu.x + 1)) s
  | .indy _, 2 => latchOperand pointer s
  | .indy _, 3 => latchRead low (zeroPage s.pipe.ptr) s
  | .indy _, 4 => latchRead high (zeroPage (s.pipe.ptr + 1)) s
  | .indy _, _ => continueInstr (discard u s)

/-- The cycle on which a read instruction reads its operand: one earlier where the uncorrected address is right. -/
def MemOperand.readCycle (o : MemOperand) (fix : Bool) : Nat :=
  if o.corrects && !fix then o.addressCycles else o.addressCycles + 1

/-- The address that cycle reads. -/
def MemOperand.readAddress (o : MemOperand) (s : State) : Word :=
  if o.corrects && !s.pipe.fix then uncorrected (wordOf s.pipe.hi s.pipe.lo) (o.index s.cpu) else o.effective s

/-! ### Cycles of each class -/

/-- A read instruction with a memory operand (R524, R528, R529, R531, R534, R536). -/
def readCycleOf (op : ReadOp) (o : MemOperand) (n : Nat) (s : State) : State :=
  if n < o.readCycle s.pipe.fix then o.addressCycle n s
  else finishInstr (op.apply (memRead (o.readAddress s) s).1 (memRead (o.readAddress s) s).2)

/-- A store (R525, R528, R529, R532, R535, R537). -/
def storeCycleOf (r : StoreReg) (o : MemOperand) (n : Nat) (s : State) : State :=
  if n ≤ o.addressCycles then o.addressCycle n s
  else finishInstr (memWrite (o.effective s) (r.value s.cpu) s)

/-- A read-modify-write instruction (R526 to R528, R530, R533). -/
def rmwCycleOf (op : RmwOp) (o : MemOperand) (n : Nat) (s : State) : State :=
  if n ≤ o.addressCycles then o.addressCycle n s
  else if n = o.addressCycles + 1 then latchRead (fun p v => { p with dat := v }) (o.effective s) s
  else if n = o.addressCycles + 2 then continueInstr (memWrite (o.effective s) s.pipe.dat s)
  else
    finishInstr ((memWrite (o.effective s) (op.value s.cpu.c s.pipe.dat) s).mapCpu fun c => c.rmwFlags op s.pipe.dat)

/-- A branch (R538). The target's high byte waits in `hi` for the fourth cycle. -/
def branchCycleOf (b : Cond) (n : Nat) (s : State) : State :=
  match n with
  | 2 =>
    let r := operandRead s
    if b.holds s.cpu then continueInstr (r.2.mapPipe fun p => { p with lo := r.1 }) else finishInstr r.2
  | 3 =>
    let t := branchTarget s.cpu.pc s.pipe.lo
    let crossed := !(highByte t == highByte s.cpu.pc)
    let s1 := (discard s.cpu.pc s).mapCpu fun c => c.setPc (wordOf (highByte c.pc) (lowByte t))
    if crossed then continueInstr (s1.mapPipe fun p => { p with hi := highByte t, fix := true }) else finishInstr s1
  | _ => finishInstr ((discard s.cpu.pc s).mapCpu fun c => c.setPc (wordOf s.pipe.hi (lowByte c.pc)))

/-- JMP absolute (R539). -/
def jmpAbsCycle (n : Nat) (s : State) : State :=
  match n with
  | 2 => latchOperand (fun p v => { p with lo := v }) s
  | _ =>
    let r := memRead s.cpu.pc s
    finishInstr (r.2.mapCpu fun c => c.setPc (wordOf r.1 s.pipe.lo))

/-- JMP indirect (R540). The target's low byte waits in `dat`. -/
def jmpIndCycle (n : Nat) (s : State) : State :=
  match n with
  | 2 => latchOperand (fun p v => { p with lo := v }) s
  | 3 => latchOperand (fun p v => { p with hi := v }) s
  | 4 => latchRead (fun p v => { p with dat := v }) (wordOf s.pipe.hi s.pipe.lo) s
  | _ =>
    let r := memRead (wordOf s.pipe.hi (s.pipe.lo + 1)) s
    finishInstr (r.2.mapCpu fun c => c.setPc (wordOf r.1 s.pipe.dat))

/-- JSR (R541). -/
def jsrCycle (n : Nat) (s : State) : State :=
  match n with
  | 2 => latchOperand (fun p v => { p with lo := v }) s
  | 3 => continueInstr (stackRead s).2
  | 4 => continueInstr (pushAccess (highByte s.cpu.pc) s)
  | 5 => continueInstr (pushAccess (lowByte s.cpu.pc) s)
  | _ =>
    let r := memRead s.cpu.pc s
    finishInstr (r.2.mapCpu fun c => c.setPc (wordOf r.1 s.pipe.lo))

/-- RTS (R542). -/
def rtsCycle (n : Nat) (s : State) : State :=
  match n with
  | 2 => continueInstr (discard s.cpu.pc s)
  | 3 => continueInstr ((stackRead s).2.mapCpu Cpu.incS)
  | 4 =>
    let r := stackRead s
    continueInstr (r.2.mapCpu fun c => (c.setPc (wordOf (highByte c.pc) r.1)).incS)
  | 5 =>
    let r := stackRead s
    continueInstr (r.2.mapCpu fun c => c.setPc (wordOf r.1 (lowByte c.pc)))
  | _ => finishInstr ((discard s.cpu.pc s).mapCpu Cpu.incPc)

/-- PHA, PHP (R543). -/
def pushCycle (r : PushReg) (n : Nat) (s : State) : State :=
  match n with
  | 2 => continueInstr (discard s.cpu.pc s)
  | _ => finishInstr (pushAccess (r.value s.cpu) s)

/-- PLA, PLP (R543). -/
def pullCycle (r : PushReg) (n : Nat) (s : State) : State :=
  match n with
  | 2 => continueInstr (discard s.cpu.pc s)
  | 3 => continueInstr ((stackRead s).2.mapCpu Cpu.incS)
  | _ => finishInstr ((stackRead s).2.mapCpu fun c => r.pulled (stackRead s).1 c)

/-- BRK (R544). -/
def brkCycle (n : Nat) (s : State) : State :=
  match n with
  | 2 => continueInstr ((discard s.cpu.pc s).mapCpu Cpu.incPc)
  | 3 => continueInstr (pushAccess (highByte s.cpu.pc) s)
  | 4 => continueInstr (pushAccess (lowByte s.cpu.pc) s)
  | 5 => continueInstr (pushAccess (s.cpu.pByte true) s)
  | 6 =>
    let r := memRead 0xFFFE s
    continueInstr (r.2.mapCpu fun c => { c with i := true, b := true, pc := wordOf (highByte c.pc) r.1 })
  | _ =>
    let r := memRead 0xFFFF s
    finishInstr (r.2.mapCpu fun c => c.setPc (wordOf r.1 (lowByte c.pc)))

/-- RTI (R545). -/
def rtiCycle (n : Nat) (s : State) : State :=
  match n with
  | 2 => continueInstr (discard s.cpu.pc s)
  | 3 => continueInstr ((stackRead s).2.mapCpu Cpu.incS)
  | 4 => continueInstr ((stackRead s).2.mapCpu fun c => (c.setP (stackRead s).1).incS)
  | 5 =>
    let r := stackRead s
    continueInstr (r.2.mapCpu fun c => (c.setPc (wordOf (highByte c.pc) r.1)).incS)
  | _ =>
    let r := stackRead s
    finishInstr (r.2.mapCpu fun c => c.setPc (wordOf r.1 (lowByte c.pc)))

/-- Cycle `n` (2 or later) of an instruction of the class. -/
def Shape.cycle (k : Shape) (n : Nat) (s : State) : State :=
  match k with
  | .implied op => finishInstr ((discard s.cpu.pc s).mapCpu op.apply)
  | .acc op => finishInstr ((discard s.cpu.pc s).mapCpu fun c => c.rmwAcc op)
  | .read op (.imm _) => finishInstr (op.apply (operandRead s).1 (operandRead s).2)
  | .read op (.mem o) => readCycleOf op o n s
  | .store r o => storeCycleOf r o n s
  | .rmw op o => rmwCycleOf op o n s
  | .branch b _ => branchCycleOf b n s
  | .jmpAbs _ => jmpAbsCycle n s
  | .jmpInd _ => jmpIndCycle n s
  | .jsr _ => jsrCycle n s
  | .rts => rtsCycle n s
  | .push r => pushCycle r n s
  | .pull r => pullCycle r n s
  | .brk => brkCycle n s
  | .rti => rtiCycle n s
  | .undocumented _ => finishInstr (discard s.cpu.pc s)

/-- Cycle 1: the opcode fetch; an undocumented byte raises its fault here (R121, R150, R153, R401, R520). -/
def fetchCycle (s : State) : State :=
  let r := operandRead s
  let started := fun t : State => t.withPipe { Latches.idle with tcyc := 1, ir := r.1 }
  match shapeOfOpcode r.1 with
  | .undocumented _ =>
    let s1 := raiseUnimplemented s.cpu.pc r.1 r.2
    match s.cfg.unimplPolicy with
    | .fatal => finishInstr s1
    | .skip => started s1
  | _ => started r.2

/-- `step_cycle()` (R435): nothing where the CPU is stuck (R401), else one cycle with its one Bus access. -/
def stepCycle (s : State) : State :=
  if s.stuck then s
  else if s.pipe.tcyc = 0 then fetchCycle s
  else (shapeOfOpcode s.pipe.ir).cycle (s.pipe.tcyc + 1) s

/-! ### Calls -/

/-- `advance()` (R430). -/
def advance (s : State) : State :=
  let d := tickDevices s
  endCall (if d.stalled then d else stepCycle d)

/-- Whether the call from `s` ends a single step: it consumed a CPU cycle and left `tcyc = 0`, or the CPU is stuck (R437). -/
def stepEnds (s : State) : Bool :=
  (!(tickDevices s).stalled && (advance s).pipe.tcyc == 0) || (advance s).stuck

/-- `single_step()`, at most `fuel` calls (R437). -/
def singleStep : Nat → State → State
  | 0, s => s
  | n + 1, s => if stepEnds s then advance s else singleStep n (advance s)

/-- A bound on the calls of one single step: seven cycles, each after at most `stallBound` stalled calls (R432, R437). -/
def callBound : Nat := 7 * (stallBound + 1)

/-- Why `run_until` returned, or that `fuel` calls were made (notes/assumptions/21.md). -/
inductive RunEnd where
  | stopped (s : State)
  | faulted (f : Fault) (s : State)
  | running (s : State)
  deriving DecidableEq, Repr

/-- `run_until(pred)` (R434), at most `fuel` calls. Nothing is flushed or dropped at the end. -/
def runUntil (pred : State → Bool) : Nat → State → RunEnd
  | 0, s => .running s
  | n + 1, s =>
    if pred s then .stopped s
    else
      match s.cpuFault, s.cfg.unimplPolicy with
      | some f, .fatal => .faulted (.unimplementedOpcode f.pc f.opcode) s
      | some _, .skip => runUntil pred n (advance s)
      | none, _ => runUntil pred n (advance s)

end Sys2Proof.Machine
end

