-- ==== Sys2Proof/Machine/Arithmetic.lean ====
section
/-! DEFINITION. The meanings of ADC, SBC, CMP, CPX, CPY (42_arithmetic.md R185 to R192), each form by its schedule of R523 to R536.
A meaning starts where the fetch of its words ends (Machine/Fetch.lean): PC is the address of the next instruction, and the
cycles that fetched the opcode and the operand bytes are done. -/

namespace Sys2Proof.Machine

/-- ADC, (zp,X) (R186; mode R131). -/
def execAdcIndx (b : Byte) (s : State) : Result := .next (runRead .adc (.mem (.indx b)) s)

/-- ADC, zero page (R186; mode R127). -/
def execAdcZp (b : Byte) (s : State) : Result := .next (runRead .adc (.mem (.zp b)) s)

/-- ADC, immediate (R186; mode R124). -/
def execAdcImm (v : Byte) (s : State) : Result := .next (runRead .adc (.imm v) s)

/-- ADC, absolute (R186; mode R128). -/
def execAdcAbs (a : Word) (s : State) : Result := .next (runRead .adc (.mem (.abs a)) s)

/-- ADC, (zp),Y (R186; mode R132). -/
def execAdcIndy (b : Byte) (s : State) : Result := .next (runRead .adc (.mem (.indy b)) s)

/-- ADC, zero page,X (R186; mode R125). -/
def execAdcZpx (b : Byte) (s : State) : Result := .next (runRead .adc (.mem (.zpx b)) s)

/-- ADC, absolute,Y (R186; mode R129). -/
def execAdcAbsy (a : Word) (s : State) : Result := .next (runRead .adc (.mem (.absy a)) s)

/-- ADC, absolute,X (R186; mode R129). -/
def execAdcAbsx (a : Word) (s : State) : Result := .next (runRead .adc (.mem (.absx a)) s)

/-- SBC, (zp,X) (R188; mode R131). -/
def execSbcIndx (b : Byte) (s : State) : Result := .next (runRead .sbc (.mem (.indx b)) s)

/-- SBC, zero page (R188; mode R127). -/
def execSbcZp (b : Byte) (s : State) : Result := .next (runRead .sbc (.mem (.zp b)) s)

/-- SBC, immediate (R188; mode R124). -/
def execSbcImm (v : Byte) (s : State) : Result := .next (runRead .sbc (.imm v) s)

/-- SBC, absolute (R188; mode R128). -/
def execSbcAbs (a : Word) (s : State) : Result := .next (runRead .sbc (.mem (.abs a)) s)

/-- SBC, (zp),Y (R188; mode R132). -/
def execSbcIndy (b : Byte) (s : State) : Result := .next (runRead .sbc (.mem (.indy b)) s)

/-- SBC, zero page,X (R188; mode R125). -/
def execSbcZpx (b : Byte) (s : State) : Result := .next (runRead .sbc (.mem (.zpx b)) s)

/-- SBC, absolute,Y (R188; mode R129). -/
def execSbcAbsy (a : Word) (s : State) : Result := .next (runRead .sbc (.mem (.absy a)) s)

/-- SBC, absolute,X (R188; mode R129). -/
def execSbcAbsx (a : Word) (s : State) : Result := .next (runRead .sbc (.mem (.absx a)) s)

/-- CMP, (zp,X) (R190; mode R131). -/
def execCmpIndx (b : Byte) (s : State) : Result := .next (runRead .cmp (.mem (.indx b)) s)

/-- CMP, zero page (R190; mode R127). -/
def execCmpZp (b : Byte) (s : State) : Result := .next (runRead .cmp (.mem (.zp b)) s)

/-- CMP, immediate (R190; mode R124). -/
def execCmpImm (v : Byte) (s : State) : Result := .next (runRead .cmp (.imm v) s)

/-- CMP, absolute (R190; mode R128). -/
def execCmpAbs (a : Word) (s : State) : Result := .next (runRead .cmp (.mem (.abs a)) s)

/-- CMP, (zp),Y (R190; mode R132). -/
def execCmpIndy (b : Byte) (s : State) : Result := .next (runRead .cmp (.mem (.indy b)) s)

/-- CMP, zero page,X (R190; mode R125). -/
def execCmpZpx (b : Byte) (s : State) : Result := .next (runRead .cmp (.mem (.zpx b)) s)

/-- CMP, absolute,Y (R190; mode R129). -/
def execCmpAbsy (a : Word) (s : State) : Result := .next (runRead .cmp (.mem (.absy a)) s)

/-- CMP, absolute,X (R190; mode R129). -/
def execCmpAbsx (a : Word) (s : State) : Result := .next (runRead .cmp (.mem (.absx a)) s)

/-- CPX, immediate (R191; mode R124). -/
def execCpxImm (v : Byte) (s : State) : Result := .next (runRead .cpx (.imm v) s)

/-- CPX, zero page (R191; mode R127). -/
def execCpxZp (b : Byte) (s : State) : Result := .next (runRead .cpx (.mem (.zp b)) s)

/-- CPX, absolute (R191; mode R128). -/
def execCpxAbs (a : Word) (s : State) : Result := .next (runRead .cpx (.mem (.abs a)) s)

/-- CPY, immediate (R192; mode R124). -/
def execCpyImm (v : Byte) (s : State) : Result := .next (runRead .cpy (.imm v) s)

/-- CPY, zero page (R192; mode R127). -/
def execCpyZp (b : Byte) (s : State) : Result := .next (runRead .cpy (.mem (.zp b)) s)

/-- CPY, absolute (R192; mode R128). -/
def execCpyAbs (a : Word) (s : State) : Result := .next (runRead .cpy (.mem (.abs a)) s)

end Sys2Proof.Machine
end

