-- ==== Sys2Proof/Machine/BranchJump.lean ====
section
/-! DEFINITION. The meanings of the eight branches, JMP, JSR, RTS (45_branch_jump.md R230 to R243), by R538 to R542.
A meaning starts where the fetch of its words ends (Machine/Fetch.lean): PC is the address of the next instruction, and the
cycles that fetched the opcode and the operand bytes are done. -/

namespace Sys2Proof.Machine

/-- BPL, relative (R231; mode R133). -/
def execBpl (d : Byte) (s : State) : Result := .next (runBranch .bpl d s)

/-- BMI, relative (R232; mode R133). -/
def execBmi (d : Byte) (s : State) : Result := .next (runBranch .bmi d s)

/-- BVC, relative (R233; mode R133). -/
def execBvc (d : Byte) (s : State) : Result := .next (runBranch .bvc d s)

/-- BVS, relative (R234; mode R133). -/
def execBvs (d : Byte) (s : State) : Result := .next (runBranch .bvs d s)

/-- BCC, relative (R235; mode R133). -/
def execBcc (d : Byte) (s : State) : Result := .next (runBranch .bcc d s)

/-- BCS, relative (R236; mode R133). -/
def execBcs (d : Byte) (s : State) : Result := .next (runBranch .bcs d s)

/-- BNE, relative (R237; mode R133). -/
def execBne (d : Byte) (s : State) : Result := .next (runBranch .bne d s)

/-- BEQ, relative (R238; mode R133). -/
def execBeq (d : Byte) (s : State) : Result := .next (runBranch .beq d s)

/-- JMP, absolute (R239; mode R128). -/
def execJmpAbs (a : Word) (s : State) : Result := .next (runJmpAbs a s)

/-- JMP, indirect (R239; mode R130). -/
def execJmpInd (a : Word) (s : State) : Result := .next (runJmpInd a s)

/-- JSR, absolute (R240; mode R128). -/
def execJsr (a : Word) (s : State) : Result := .next (runJsr a s)

/-- RTS, implied (R241; mode R122). -/
def execRts (s : State) : Result := .next (runRts s)

end Sys2Proof.Machine
end

