-- ==== Sys2Proof/Machine/FlagSystem.lean ====
section
/-! DEFINITION. The meanings of CLC, SEC, CLI, SEI, CLD, SED, CLV, NOP, BRK, RTI (46_flag_system.md R250 to R261), by R522, R544, R545.
A meaning starts where the fetch of its words ends (Machine/Fetch.lean): PC is the address of the next instruction, and the
cycles that fetched the opcode and the operand bytes are done. -/

namespace Sys2Proof.Machine

/-- CLC, implied (R251; mode R122). -/
def execClc (s : State) : Result := .next (runImplied .clc s)

/-- SEC, implied (R252; mode R122). -/
def execSec (s : State) : Result := .next (runImplied .sec s)

/-- CLI, implied (R253; mode R122). -/
def execCli (s : State) : Result := .next (runImplied .cli s)

/-- SEI, implied (R254; mode R122). -/
def execSei (s : State) : Result := .next (runImplied .sei s)

/-- CLD, implied (R255; mode R122). -/
def execCld (s : State) : Result := .next (runImplied .cld s)

/-- SED, implied (R256; mode R122). -/
def execSed (s : State) : Result := .next (runImplied .sed s)

/-- CLV, implied (R257; mode R122). -/
def execClv (s : State) : Result := .next (runImplied .clv s)

/-- BRK, implied (R258; mode R122). -/
def execBrk (s : State) : Result := .next (runBrk s)

/-- RTI, implied (R259; mode R122). -/
def execRti (s : State) : Result := .next (runRti s)

/-- NOP, implied (R260; mode R122). -/
def execNop (s : State) : Result := .next (runImplied .nop s)

end Sys2Proof.Machine
end

