-- ==== Sys2Proof/Machine/LoadStore.lean ====
section
/-! DEFINITION. The meanings of LDA, LDX, LDY, STA, STX, STY (40_load_store.md R160 to R167), each form by its schedule of R523 to R537.
A meaning starts where the fetch of its words ends (Machine/Fetch.lean): PC is the address of the next instruction, and the
cycles that fetched the opcode and the operand bytes are done. -/

namespace Sys2Proof.Machine

/-- LDA, (zp,X) (R161; mode R131). -/
def execLdaIndx (b : Byte) (s : State) : Result := .next (runRead .lda (.mem (.indx b)) s)

/-- LDA, zero page (R161; mode R127). -/
def execLdaZp (b : Byte) (s : State) : Result := .next (runRead .lda (.mem (.zp b)) s)

/-- LDA, immediate (R161; mode R124). -/
def execLdaImm (v : Byte) (s : State) : Result := .next (runRead .lda (.imm v) s)

/-- LDA, absolute (R161; mode R128). -/
def execLdaAbs (a : Word) (s : State) : Result := .next (runRead .lda (.mem (.abs a)) s)

/-- LDA, (zp),Y (R161; mode R132). -/
def execLdaIndy (b : Byte) (s : State) : Result := .next (runRead .lda (.mem (.indy b)) s)

/-- LDA, zero page,X (R161; mode R125). -/
def execLdaZpx (b : Byte) (s : State) : Result := .next (runRead .lda (.mem (.zpx b)) s)

/-- LDA, absolute,Y (R161; mode R129). -/
def execLdaAbsy (a : Word) (s : State) : Result := .next (runRead .lda (.mem (.absy a)) s)

/-- LDA, absolute,X (R161; mode R129). -/
def execLdaAbsx (a : Word) (s : State) : Result := .next (runRead .lda (.mem (.absx a)) s)

/-- LDX, immediate (R162; mode R124). -/
def execLdxImm (v : Byte) (s : State) : Result := .next (runRead .ldx (.imm v) s)

/-- LDX, zero page (R162; mode R127). -/
def execLdxZp (b : Byte) (s : State) : Result := .next (runRead .ldx (.mem (.zp b)) s)

/-- LDX, absolute (R162; mode R128). -/
def execLdxAbs (a : Word) (s : State) : Result := .next (runRead .ldx (.mem (.abs a)) s)

/-- LDX, zero page,Y (R162; mode R126). -/
def execLdxZpy (b : Byte) (s : State) : Result := .next (runRead .ldx (.mem (.zpy b)) s)

/-- LDX, absolute,Y (R162; mode R129). -/
def execLdxAbsy (a : Word) (s : State) : Result := .next (runRead .ldx (.mem (.absy a)) s)

/-- LDY, immediate (R163; mode R124). -/
def execLdyImm (v : Byte) (s : State) : Result := .next (runRead .ldy (.imm v) s)

/-- LDY, zero page (R163; mode R127). -/
def execLdyZp (b : Byte) (s : State) : Result := .next (runRead .ldy (.mem (.zp b)) s)

/-- LDY, absolute (R163; mode R128). -/
def execLdyAbs (a : Word) (s : State) : Result := .next (runRead .ldy (.mem (.abs a)) s)

/-- LDY, zero page,X (R163; mode R125). -/
def execLdyZpx (b : Byte) (s : State) : Result := .next (runRead .ldy (.mem (.zpx b)) s)

/-- LDY, absolute,X (R163; mode R129). -/
def execLdyAbsx (a : Word) (s : State) : Result := .next (runRead .ldy (.mem (.absx a)) s)

/-- STA, (zp,X) (R164; mode R131). -/
def execStaIndx (b : Byte) (s : State) : Result := .next (runStore .a (.indx b) s)

/-- STA, zero page (R164; mode R127). -/
def execStaZp (b : Byte) (s : State) : Result := .next (runStore .a (.zp b) s)

/-- STA, absolute (R164; mode R128). -/
def execStaAbs (a : Word) (s : State) : Result := .next (runStore .a (.abs a) s)

/-- STA, (zp),Y (R164; mode R132). -/
def execStaIndy (b : Byte) (s : State) : Result := .next (runStore .a (.indy b) s)

/-- STA, zero page,X (R164; mode R125). -/
def execStaZpx (b : Byte) (s : State) : Result := .next (runStore .a (.zpx b) s)

/-- STA, absolute,Y (R164; mode R129). -/
def execStaAbsy (a : Word) (s : State) : Result := .next (runStore .a (.absy a) s)

/-- STA, absolute,X (R164; mode R129). -/
def execStaAbsx (a : Word) (s : State) : Result := .next (runStore .a (.absx a) s)

/-- STX, zero page (R165; mode R127). -/
def execStxZp (b : Byte) (s : State) : Result := .next (runStore .x (.zp b) s)

/-- STX, absolute (R165; mode R128). -/
def execStxAbs (a : Word) (s : State) : Result := .next (runStore .x (.abs a) s)

/-- STX, zero page,Y (R165; mode R126). -/
def execStxZpy (b : Byte) (s : State) : Result := .next (runStore .x (.zpy b) s)

/-- STY, zero page (R166; mode R127). -/
def execStyZp (b : Byte) (s : State) : Result := .next (runStore .y (.zp b) s)

/-- STY, absolute (R166; mode R128). -/
def execStyAbs (a : Word) (s : State) : Result := .next (runStore .y (.abs a) s)

/-- STY, zero page,X (R166; mode R125). -/
def execStyZpx (b : Byte) (s : State) : Result := .next (runStore .y (.zpx b) s)

end Sys2Proof.Machine
end

