-- ==== Sys2Proof/Machine/Logic.lean ====
section
/-! DEFINITION. The meanings of AND, ORA, EOR, BIT (43_logic.md R200 to R204), each form by its schedule of R523 to R536.
A meaning starts where the fetch of its words ends (Machine/Fetch.lean): PC is the address of the next instruction, and the
cycles that fetched the opcode and the operand bytes are done. -/

namespace Sys2Proof.Machine

/-- AND, (zp,X) (R201; mode R131). -/
def execAndIndx (b : Byte) (s : State) : Result := .next (runRead .and (.mem (.indx b)) s)

/-- AND, zero page (R201; mode R127). -/
def execAndZp (b : Byte) (s : State) : Result := .next (runRead .and (.mem (.zp b)) s)

/-- AND, immediate (R201; mode R124). -/
def execAndImm (v : Byte) (s : State) : Result := .next (runRead .and (.imm v) s)

/-- AND, absolute (R201; mode R128). -/
def execAndAbs (a : Word) (s : State) : Result := .next (runRead .and (.mem (.abs a)) s)

/-- AND, (zp),Y (R201; mode R132). -/
def execAndIndy (b : Byte) (s : State) : Result := .next (runRead .and (.mem (.indy b)) s)

/-- AND, zero page,X (R201; mode R125). -/
def execAndZpx (b : Byte) (s : State) : Result := .next (runRead .and (.mem (.zpx b)) s)

/-- AND, absolute,Y (R201; mode R129). -/
def execAndAbsy (a : Word) (s : State) : Result := .next (runRead .and (.mem (.absy a)) s)

/-- AND, absolute,X (R201; mode R129). -/
def execAndAbsx (a : Word) (s : State) : Result := .next (runRead .and (.mem (.absx a)) s)

/-- ORA, (zp,X) (R202; mode R131). -/
def execOraIndx (b : Byte) (s : State) : Result := .next (runRead .ora (.mem (.indx b)) s)

/-- ORA, zero page (R202; mode R127). -/
def execOraZp (b : Byte) (s : State) : Result := .next (runRead .ora (.mem (.zp b)) s)

/-- ORA, immediate (R202; mode R124). -/
def execOraImm (v : Byte) (s : State) : Result := .next (runRead .ora (.imm v) s)

/-- ORA, absolute (R202; mode R128). -/
def execOraAbs (a : Word) (s : State) : Result := .next (runRead .ora (.mem (.abs a)) s)

/-- ORA, (zp),Y (R202; mode R132). -/
def execOraIndy (b : Byte) (s : State) : Result := .next (runRead .ora (.mem (.indy b)) s)

/-- ORA, zero page,X (R202; mode R125). -/
def execOraZpx (b : Byte) (s : State) : Result := .next (runRead .ora (.mem (.zpx b)) s)

/-- ORA, absolute,Y (R202; mode R129). -/
def execOraAbsy (a : Word) (s : State) : Result := .next (runRead .ora (.mem (.absy a)) s)

/-- ORA, absolute,X (R202; mode R129). -/
def execOraAbsx (a : Word) (s : State) : Result := .next (runRead .ora (.mem (.absx a)) s)

/-- EOR, (zp,X) (R203; mode R131). -/
def execEorIndx (b : Byte) (s : State) : Result := .next (runRead .eor (.mem (.indx b)) s)

/-- EOR, zero page (R203; mode R127). -/
def execEorZp (b : Byte) (s : State) : Result := .next (runRead .eor (.mem (.zp b)) s)

/-- EOR, immediate (R203; mode R124). -/
def execEorImm (v : Byte) (s : State) : Result := .next (runRead .eor (.imm v) s)

/-- EOR, absolute (R203; mode R128). -/
def execEorAbs (a : Word) (s : State) : Result := .next (runRead .eor (.mem (.abs a)) s)

/-- EOR, (zp),Y (R203; mode R132). -/
def execEorIndy (b : Byte) (s : State) : Result := .next (runRead .eor (.mem (.indy b)) s)

/-- EOR, zero page,X (R203; mode R125). -/
def execEorZpx (b : Byte) (s : State) : Result := .next (runRead .eor (.mem (.zpx b)) s)

/-- EOR, absolute,Y (R203; mode R129). -/
def execEorAbsy (a : Word) (s : State) : Result := .next (runRead .eor (.mem (.absy a)) s)

/-- EOR, absolute,X (R203; mode R129). -/
def execEorAbsx (a : Word) (s : State) : Result := .next (runRead .eor (.mem (.absx a)) s)

/-- BIT, zero page (R204; mode R127). -/
def execBitZp (b : Byte) (s : State) : Result := .next (runRead .bit (.mem (.zp b)) s)

/-- BIT, absolute (R204; mode R128). -/
def execBitAbs (a : Word) (s : State) : Result := .next (runRead .bit (.mem (.abs a)) s)

end Sys2Proof.Machine
end

