-- ==== Sys2Proof/Machine/ShiftIncDec.lean ====
section
/-! DEFINITION. The meanings of ASL, LSR, ROL, ROR, INC, DEC, INX, INY, DEX, DEY (44_shift_incdec.md R210 to R220), by R522, R526 to R533.
A meaning starts where the fetch of its words ends (Machine/Fetch.lean): PC is the address of the next instruction, and the
cycles that fetched the opcode and the operand bytes are done. -/

namespace Sys2Proof.Machine

/-- ASL, zero page (R211; mode R127). -/
def execAslZp (b : Byte) (s : State) : Result := .next (runRmw .asl (.zp b) s)

/-- ASL, accumulator (R211; mode R123). -/
def execAslAcc (s : State) : Result := .next (runAcc .asl s)

/-- ASL, absolute (R211; mode R128). -/
def execAslAbs (a : Word) (s : State) : Result := .next (runRmw .asl (.abs a) s)

/-- ASL, zero page,X (R211; mode R125). -/
def execAslZpx (b : Byte) (s : State) : Result := .next (runRmw .asl (.zpx b) s)

/-- ASL, absolute,X (R211; mode R129). -/
def execAslAbsx (a : Word) (s : State) : Result := .next (runRmw .asl (.absx a) s)

/-- LSR, zero page (R212; mode R127). -/
def execLsrZp (b : Byte) (s : State) : Result := .next (runRmw .lsr (.zp b) s)

/-- LSR, accumulator (R212; mode R123). -/
def execLsrAcc (s : State) : Result := .next (runAcc .lsr s)

/-- LSR, absolute (R212; mode R128). -/
def execLsrAbs (a : Word) (s : State) : Result := .next (runRmw .lsr (.abs a) s)

/-- LSR, zero page,X (R212; mode R125). -/
def execLsrZpx (b : Byte) (s : State) : Result := .next (runRmw .lsr (.zpx b) s)

/-- LSR, absolute,X (R212; mode R129). -/
def execLsrAbsx (a : Word) (s : State) : Result := .next (runRmw .lsr (.absx a) s)

/-- ROL, zero page (R213; mode R127). -/
def execRolZp (b : Byte) (s : State) : Result := .next (runRmw .rol (.zp b) s)

/-- ROL, accumulator (R213; mode R123). -/
def execRolAcc (s : State) : Result := .next (runAcc .rol s)

/-- ROL, absolute (R213; mode R128). -/
def execRolAbs (a : Word) (s : State) : Result := .next (runRmw .rol (.abs a) s)

/-- ROL, zero page,X (R213; mode R125). -/
def execRolZpx (b : Byte) (s : State) : Result := .next (runRmw .rol (.zpx b) s)

/-- ROL, absolute,X (R213; mode R129). -/
def execRolAbsx (a : Word) (s : State) : Result := .next (runRmw .rol (.absx a) s)

/-- ROR, zero page (R214; mode R127). -/
def execRorZp (b : Byte) (s : State) : Result := .next (runRmw .ror (.zp b) s)

/-- ROR, accumulator (R214; mode R123). -/
def execRorAcc (s : State) : Result := .next (runAcc .ror s)

/-- ROR, absolute (R214; mode R128). -/
def execRorAbs (a : Word) (s : State) : Result := .next (runRmw .ror (.abs a) s)

/-- ROR, zero page,X (R214; mode R125). -/
def execRorZpx (b : Byte) (s : State) : Result := .next (runRmw .ror (.zpx b) s)

/-- ROR, absolute,X (R214; mode R129). -/
def execRorAbsx (a : Word) (s : State) : Result := .next (runRmw .ror (.absx a) s)

/-- INC, zero page (R215; mode R127). -/
def execIncZp (b : Byte) (s : State) : Result := .next (runRmw .inc (.zp b) s)

/-- INC, absolute (R215; mode R128). -/
def execIncAbs (a : Word) (s : State) : Result := .next (runRmw .inc (.abs a) s)

/-- INC, zero page,X (R215; mode R125). -/
def execIncZpx (b : Byte) (s : State) : Result := .next (runRmw .inc (.zpx b) s)

/-- INC, absolute,X (R215; mode R129). -/
def execIncAbsx (a : Word) (s : State) : Result := .next (runRmw .inc (.absx a) s)

/-- DEC, zero page (R216; mode R127). -/
def execDecZp (b : Byte) (s : State) : Result := .next (runRmw .dec (.zp b) s)

/-- DEC, absolute (R216; mode R128). -/
def execDecAbs (a : Word) (s : State) : Result := .next (runRmw .dec (.abs a) s)

/-- DEC, zero page,X (R216; mode R125). -/
def execDecZpx (b : Byte) (s : State) : Result := .next (runRmw .dec (.zpx b) s)

/-- DEC, absolute,X (R216; mode R129). -/
def execDecAbsx (a : Word) (s : State) : Result := .next (runRmw .dec (.absx a) s)

/-- INX, implied (R217; mode R122). -/
def execInx (s : State) : Result := .next (runImplied .inx s)

/-- INY, implied (R218; mode R122). -/
def execIny (s : State) : Result := .next (runImplied .iny s)

/-- DEX, implied (R219; mode R122). -/
def execDex (s : State) : Result := .next (runImplied .dex s)

/-- DEY, implied (R220; mode R122). -/
def execDey (s : State) : Result := .next (runImplied .dey s)

end Sys2Proof.Machine
end

