-- ==== Sys2Proof/Machine/TransferStack.lean ====
section
/-! DEFINITION. The meanings of TAX, TAY, TXA, TYA, TSX, TXS, PHA, PHP, PLA, PLP (41_transfer_stack.md R170 to R180), by R522 and R543.
A meaning starts where the fetch of its words ends (Machine/Fetch.lean): PC is the address of the next instruction, and the
cycles that fetched the opcode and the operand bytes are done. -/

namespace Sys2Proof.Machine

/-- TAX, implied (R171; mode R122). -/
def execTax (s : State) : Result := .next (runImplied .tax s)

/-- TAY, implied (R172; mode R122). -/
def execTay (s : State) : Result := .next (runImplied .tay s)

/-- TXA, implied (R173; mode R122). -/
def execTxa (s : State) : Result := .next (runImplied .txa s)

/-- TYA, implied (R174; mode R122). -/
def execTya (s : State) : Result := .next (runImplied .tya s)

/-- TSX, implied (R175; mode R122). -/
def execTsx (s : State) : Result := .next (runImplied .tsx s)

/-- TXS, implied (R176; mode R122). -/
def execTxs (s : State) : Result := .next (runImplied .txs s)

/-- PHA, implied (R178; mode R122). -/
def execPha (s : State) : Result := .next (runPush .a s)

/-- PHP, implied (R177; mode R122). -/
def execPhp (s : State) : Result := .next (runPush .p s)

/-- PLA, implied (R179; mode R122). -/
def execPla (s : State) : Result := .next (runPull .a s)

/-- PLP, implied (R180; mode R122). -/
def execPlp (s : State) : Result := .next (runPull .p s)

end Sys2Proof.Machine
end

