-- ==== Sys2Proof/Machine/Undocumented.lean ====
section
/-! DEFINITION. The meanings of the 105 undocumented opcodes (30_encoding.md R150, R151, R153; 60_exceptions.md R401).
A meaning starts where the fetch of its words ends (Machine/Fetch.lean): PC is the address of the next instruction, and the
cycles that fetched the opcode and the operand bytes are done. -/

namespace Sys2Proof.Machine

/-- Opcode `$02`, undocumented (R150, R401). -/
def execUndoc02 (s : State) : Result := .next (undocumented 0x02 s)

/-- Opcode `$03`, undocumented (R150, R401). -/
def execUndoc03 (s : State) : Result := .next (undocumented 0x03 s)

/-- Opcode `$04`, undocumented (R150, R401). -/
def execUndoc04 (s : State) : Result := .next (undocumented 0x04 s)

/-- Opcode `$07`, undocumented (R150, R401). -/
def execUndoc07 (s : State) : Result := .next (undocumented 0x07 s)

/-- Opcode `$0B`, undocumented (R150, R401). -/
def execUndoc0B (s : State) : Result := .next (undocumented 0x0B s)

/-- Opcode `$0C`, undocumented (R150, R401). -/
def execUndoc0C (s : State) : Result := .next (undocumented 0x0C s)

/-- Opcode `$0F`, undocumented (R150, R401). -/
def execUndoc0F (s : State) : Result := .next (undocumented 0x0F s)

/-- Opcode `$12`, undocumented (R150, R401). -/
def execUndoc12 (s : State) : Result := .next (undocumented 0x12 s)

/-- Opcode `$13`, undocumented (R150, R401). -/
def execUndoc13 (s : State) : Result := .next (undocumented 0x13 s)

/-- Opcode `$14`, undocumented (R150, R401). -/
def execUndoc14 (s : State) : Result := .next (undocumented 0x14 s)

/-- Opcode `$17`, undocumented (R150, R401). -/
def execUndoc17 (s : State) : Result := .next (undocumented 0x17 s)

/-- Opcode `$1A`, undocumented (R150, R401). -/
def execUndoc1A (s : State) : Result := .next (undocumented 0x1A s)

/-- Opcode `$1B`, undocumented (R150, R401). -/
def execUndoc1B (s : State) : Result := .next (undocumented 0x1B s)

/-- Opcode `$1C`, undocumented (R150, R401). -/
def execUndoc1C (s : State) : Result := .next (undocumented 0x1C s)

/-- Opcode `$1F`, undocumented (R150, R401). -/
def execUndoc1F (s : State) : Result := .next (undocumented 0x1F s)

/-- Opcode `$22`, undocumented (R150, R401). -/
def execUndoc22 (s : State) : Result := .next (undocumented 0x22 s)

/-- Opcode `$23`, undocumented (R150, R401). -/
def execUndoc23 (s : State) : Result := .next (undocumented 0x23 s)

/-- Opcode `$27`, undocumented (R150, R401). -/
def execUndoc27 (s : State) : Result := .next (undocumented 0x27 s)

/-- Opcode `$2B`, undocumented (R150, R401). -/
def execUndoc2B (s : State) : Result := .next (undocumented 0x2B s)

/-- Opcode `$2F`, undocumented (R150, R401). -/
def execUndoc2F (s : State) : Result := .next (undocumented 0x2F s)

/-- Opcode `$32`, undocumented (R150, R401). -/
def execUndoc32 (s : State) : Result := .next (undocumented 0x32 s)

/-- Opcode `$33`, undocumented (R150, R401). -/
def execUndoc33 (s : State) : Result := .next (undocumented 0x33 s)

/-- Opcode `$34`, undocumented (R150, R401). -/
def execUndoc34 (s : State) : Result := .next (undocumented 0x34 s)

/-- Opcode `$37`, undocumented (R150, R401). -/
def execUndoc37 (s : State) : Result := .next (undocumented 0x37 s)

/-- Opcode `$3A`, undocumented (R150, R401). -/
def execUndoc3A (s : State) : Result := .next (undocumented 0x3A s)

/-- Opcode `$3B`, undocumented (R150, R401). -/
def execUndoc3B (s : State) : Result := .next (undocumented 0x3B s)

/-- Opcode `$3C`, undocumented (R150, R401). -/
def execUndoc3C (s : State) : Result := .next (undocumented 0x3C s)

/-- Opcode `$3F`, undocumented (R150, R401). -/
def execUndoc3F (s : State) : Result := .next (undocumented 0x3F s)

/-- Opcode `$42`, undocumented (R150, R401). -/
def execUndoc42 (s : State) : Result := .next (undocumented 0x42 s)

/-- Opcode `$43`, undocumented (R150, R401). -/
def execUndoc43 (s : State) : Result := .next (undocumented 0x43 s)

/-- Opcode `$44`, undocumented (R150, R401). -/
def execUndoc44 (s : State) : Result := .next (undocumented 0x44 s)

/-- Opcode `$47`, undocumented (R150, R401). -/
def execUndoc47 (s : State) : Result := .next (undocumented 0x47 s)

/-- Opcode `$4B`, undocumented (R150, R401). -/
def execUndoc4B (s : State) : Result := .next (undocumented 0x4B s)

/-- Opcode `$4F`, undocumented (R150, R401). -/
def execUndoc4F (s : State) : Result := .next (undocumented 0x4F s)

/-- Opcode `$52`, undocumented (R150, R401). -/
def execUndoc52 (s : State) : Result := .next (undocumented 0x52 s)

/-- Opcode `$53`, undocumented (R150, R401). -/
def execUndoc53 (s : State) : Result := .next (undocumented 0x53 s)

/-- Opcode `$54`, undocumented (R150, R401). -/
def execUndoc54 (s : State) : Result := .next (undocumented 0x54 s)

/-- Opcode `$57`, undocumented (R150, R401). -/
def execUndoc57 (s : State) : Result := .next (undocumented 0x57 s)

/-- Opcode `$5A`, undocumented (R150, R401). -/
def execUndoc5A (s : State) : Result := .next (undocumented 0x5A s)

/-- Opcode `$5B`, undocumented (R150, R401). -/
def execUndoc5B (s : State) : Result := .next (undocumented 0x5B s)

/-- Opcode `$5C`, undocumented (R150, R401). -/
def execUndoc5C (s : State) : Result := .next (undocumented 0x5C s)

/-- Opcode `$5F`, undocumented (R150, R401). -/
def execUndoc5F (s : State) : Result := .next (undocumented 0x5F s)

/-- Opcode `$62`, undocumented (R150, R401). -/
def execUndoc62 (s : State) : Result := .next (undocumented 0x62 s)

/-- Opcode `$63`, undocumented (R150, R401). -/
def execUndoc63 (s : State) : Result := .next (undocumented 0x63 s)

/-- Opcode `$64`, undocumented (R150, R401). -/
def execUndoc64 (s : State) : Result := .next (undocumented 0x64 s)

/-- Opcode `$67`, undocumented (R150, R401). -/
def execUndoc67 (s : State) : Result := .next (undocumented 0x67 s)

/-- Opcode `$6B`, undocumented (R150, R401). -/
def execUndoc6B (s : State) : Result := .next (undocumented 0x6B s)

/-- Opcode `$6F`, undocumented (R150, R401). -/
def execUndoc6F (s : State) : Result := .next (undocumented 0x6F s)

/-- Opcode `$72`, undocumented (R150, R401). -/
def execUndoc72 (s : State) : Result := .next (undocumented 0x72 s)

/-- Opcode `$73`, undocumented (R150, R401). -/
def execUndoc73 (s : State) : Result := .next (undocumented 0x73 s)

/-- Opcode `$74`, undocumented (R150, R401). -/
def execUndoc74 (s : State) : Result := .next (undocumented 0x74 s)

/-- Opcode `$77`, undocumented (R150, R401). -/
def execUndoc77 (s : State) : Result := .next (undocumented 0x77 s)

/-- Opcode `$7A`, undocumented (R150, R401). -/
def execUndoc7A (s : State) : Result := .next (undocumented 0x7A s)

/-- Opcode `$7B`, undocumented (R150, R401). -/
def execUndoc7B (s : State) : Result := .next (undocumented 0x7B s)

/-- Opcode `$7C`, undocumented (R150, R401). -/
def execUndoc7C (s : State) : Result := .next (undocumented 0x7C s)

/-- Opcode `$7F`, undocumented (R150, R401). -/
def execUndoc7F (s : State) : Result := .next (undocumented 0x7F s)

/-- Opcode `$80`, undocumented (R150, R401). -/
def execUndoc80 (s : State) : Result := .next (undocumented 0x80 s)

/-- Opcode `$82`, undocumented (R150, R401). -/
def execUndoc82 (s : State) : Result := .next (undocumented 0x82 s)

/-- Opcode `$83`, undocumented (R150, R401). -/
def execUndoc83 (s : State) : Result := .next (undocumented 0x83 s)

/-- Opcode `$87`, undocumented (R150, R401). -/
def execUndoc87 (s : State) : Result := .next (undocumented 0x87 s)

/-- Opcode `$89`, undocumented (R150, R401). -/
def execUndoc89 (s : State) : Result := .next (undocumented 0x89 s)

/-- Opcode `$8B`, undocumented (R150, R401). -/
def execUndoc8B (s : State) : Result := .next (undocumented 0x8B s)

/-- Opcode `$8F`, undocumented (R150, R401). -/
def execUndoc8F (s : State) : Result := .next (undocumented 0x8F s)

/-- Opcode `$92`, undocumented (R150, R401). -/
def execUndoc92 (s : State) : Result := .next (undocumented 0x92 s)

/-- Opcode `$93`, undocumented (R150, R401). -/
def execUndoc93 (s : State) : Result := .next (undocumented 0x93 s)

/-- Opcode `$97`, undocumented (R150, R401). -/
def execUndoc97 (s : State) : Result := .next (undocumented 0x97 s)

/-- Opcode `$9B`, undocumented (R150, R401). -/
def execUndoc9B (s : State) : Result := .next (undocumented 0x9B s)

/-- Opcode `$9C`, undocumented (R150, R401). -/
def execUndoc9C (s : State) : Result := .next (undocumented 0x9C s)

/-- Opcode `$9E`, undocumented (R150, R401). -/
def execUndoc9E (s : State) : Result := .next (undocumented 0x9E s)

/-- Opcode `$9F`, undocumented (R150, R401). -/
def execUndoc9F (s : State) : Result := .next (undocumented 0x9F s)

/-- Opcode `$A3`, undocumented (R150, R401). -/
def execUndocA3 (s : State) : Result := .next (undocumented 0xA3 s)

/-- Opcode `$A7`, undocumented (R150, R401). -/
def execUndocA7 (s : State) : Result := .next (undocumented 0xA7 s)

/-- Opcode `$AB`, undocumented (R150, R401). -/
def execUndocAB (s : State) : Result := .next (undocumented 0xAB s)

/-- Opcode `$AF`, undocumented (R150, R401). -/
def execUndocAF (s : State) : Result := .next (undocumented 0xAF s)

/-- Opcode `$B2`, undocumented (R150, R401). -/
def execUndocB2 (s : State) : Result := .next (undocumented 0xB2 s)

/-- Opcode `$B3`, undocumented (R150, R401). -/
def execUndocB3 (s : State) : Result := .next (undocumented 0xB3 s)

/-- Opcode `$B7`, undocumented (R150, R401). -/
def execUndocB7 (s : State) : Result := .next (undocumented 0xB7 s)

/-- Opcode `$BB`, undocumented (R150, R401). -/
def execUndocBB (s : State) : Result := .next (undocumented 0xBB s)

/-- Opcode `$BF`, undocumented (R150, R401). -/
def execUndocBF (s : State) : Result := .next (undocumented 0xBF s)

/-- Opcode `$C2`, undocumented (R150, R401). -/
def execUndocC2 (s : State) : Result := .next (undocumented 0xC2 s)

/-- Opcode `$C3`, undocumented (R150, R401). -/
def execUndocC3 (s : State) : Result := .next (undocumented 0xC3 s)

/-- Opcode `$C7`, undocumented (R150, R401). -/
def execUndocC7 (s : State) : Result := .next (undocumented 0xC7 s)

/-- Opcode `$CB`, undocumented (R150, R401). -/
def execUndocCB (s : State) : Result := .next (undocumented 0xCB s)

/-- Opcode `$CF`, undocumented (R150, R401). -/
def execUndocCF (s : State) : Result := .next (undocumented 0xCF s)

/-- Opcode `$D2`, undocumented (R150, R401). -/
def execUndocD2 (s : State) : Result := .next (undocumented 0xD2 s)

/-- Opcode `$D3`, undocumented (R150, R401). -/
def execUndocD3 (s : State) : Result := .next (undocumented 0xD3 s)

/-- Opcode `$D4`, undocumented (R150, R401). -/
def execUndocD4 (s : State) : Result := .next (undocumented 0xD4 s)

/-- Opcode `$D7`, undocumented (R150, R401). -/
def execUndocD7 (s : State) : Result := .next (undocumented 0xD7 s)

/-- Opcode `$DA`, undocumented (R150, R401). -/
def execUndocDA (s : State) : Result := .next (undocumented 0xDA s)

/-- Opcode `$DB`, undocumented (R150, R401). -/
def execUndocDB (s : State) : Result := .next (undocumented 0xDB s)

/-- Opcode `$DC`, undocumented (R150, R401). -/
def execUndocDC (s : State) : Result := .next (undocumented 0xDC s)

/-- Opcode `$DF`, undocumented (R150, R401). -/
def execUndocDF (s : State) : Result := .next (undocumented 0xDF s)

/-- Opcode `$E2`, undocumented (R150, R401). -/
def execUndocE2 (s : State) : Result := .next (undocumented 0xE2 s)

/-- Opcode `$E3`, undocumented (R150, R401). -/
def execUndocE3 (s : State) : Result := .next (undocumented 0xE3 s)

/-- Opcode `$E7`, undocumented (R150, R401). -/
def execUndocE7 (s : State) : Result := .next (undocumented 0xE7 s)

/-- Opcode `$EB`, undocumented (R150, R401). -/
def execUndocEB (s : State) : Result := .next (undocumented 0xEB s)

/-- Opcode `$EF`, undocumented (R150, R401). -/
def execUndocEF (s : State) : Result := .next (undocumented 0xEF s)

/-- Opcode `$F2`, undocumented (R150, R401). -/
def execUndocF2 (s : State) : Result := .next (undocumented 0xF2 s)

/-- Opcode `$F3`, undocumented (R150, R401). -/
def execUndocF3 (s : State) : Result := .next (undocumented 0xF3 s)

/-- Opcode `$F4`, undocumented (R150, R401). -/
def execUndocF4 (s : State) : Result := .next (undocumented 0xF4 s)

/-- Opcode `$F7`, undocumented (R150, R401). -/
def execUndocF7 (s : State) : Result := .next (undocumented 0xF7 s)

/-- Opcode `$FA`, undocumented (R150, R401). -/
def execUndocFA (s : State) : Result := .next (undocumented 0xFA s)

/-- Opcode `$FB`, undocumented (R150, R401). -/
def execUndocFB (s : State) : Result := .next (undocumented 0xFB s)

/-- Opcode `$FC`, undocumented (R150, R401). -/
def execUndocFC (s : State) : Result := .next (undocumented 0xFC s)

/-- Opcode `$FF`, undocumented (R150, R401). -/
def execUndocFF (s : State) : Result := .next (undocumented 0xFF s)

end Sys2Proof.Machine
end

