-- ==== Sys2Proof/Machine/Dispatch.lean ====
section
/-! DEFINITION. One arm for every constructor of Instr: a direct call of its meaning. -/

namespace Sys2Proof.Machine

def exec (i : Instr) (s : State) : Host.Outcome State Fault Refusal :=
  match i with
  | .brk => Sys2Proof.Machine.execBrk s
  | .oraIndx b => Sys2Proof.Machine.execOraIndx b s
  | .oraZp b => Sys2Proof.Machine.execOraZp b s
  | .aslZp b => Sys2Proof.Machine.execAslZp b s
  | .php => Sys2Proof.Machine.execPhp s
  | .oraImm v => Sys2Proof.Machine.execOraImm v s
  | .aslAcc => Sys2Proof.Machine.execAslAcc s
  | .oraAbs a => Sys2Proof.Machine.execOraAbs a s
  | .aslAbs a => Sys2Proof.Machine.execAslAbs a s
  | .bpl d => Sys2Proof.Machine.execBpl d s
  | .oraIndy b => Sys2Proof.Machine.execOraIndy b s
  | .oraZpx b => Sys2Proof.Machine.execOraZpx b s
  | .aslZpx b => Sys2Proof.Machine.execAslZpx b s
  | .clc => Sys2Proof.Machine.execClc s
  | .oraAbsy a => Sys2Proof.Machine.execOraAbsy a s
  | .oraAbsx a => Sys2Proof.Machine.execOraAbsx a s
  | .aslAbsx a => Sys2Proof.Machine.execAslAbsx a s
  | .jsr a => Sys2Proof.Machine.execJsr a s
  | .andIndx b => Sys2Proof.Machine.execAndIndx b s
  | .bitZp b => Sys2Proof.Machine.execBitZp b s
  | .andZp b => Sys2Proof.Machine.execAndZp b s
  | .rolZp b => Sys2Proof.Machine.execRolZp b s
  | .plp => Sys2Proof.Machine.execPlp s
  | .andImm v => Sys2Proof.Machine.execAndImm v s
  | .rolAcc => Sys2Proof.Machine.execRolAcc s
  | .bitAbs a => Sys2Proof.Machine.execBitAbs a s
  | .andAbs a => Sys2Proof.Machine.execAndAbs a s
  | .rolAbs a => Sys2Proof.Machine.execRolAbs a s
  | .bmi d => Sys2Proof.Machine.execBmi d s
  | .andIndy b => Sys2Proof.Machine.execAndIndy b s
  | .andZpx b => Sys2Proof.Machine.execAndZpx b s
  | .rolZpx b => Sys2Proof.Machine.execRolZpx b s
  | .sec => Sys2Proof.Machine.execSec s
  | .andAbsy a => Sys2Proof.Machine.execAndAbsy a s
  | .andAbsx a => Sys2Proof.Machine.execAndAbsx a s
  | .rolAbsx a => Sys2Proof.Machine.execRolAbsx a s
  | .rti => Sys2Proof.Machine.execRti s
  | .eorIndx b => Sys2Proof.Machine.execEorIndx b s
  | .eorZp b => Sys2Proof.Machine.execEorZp b s
  | .lsrZp b => Sys2Proof.Machine.execLsrZp b s
  | .pha => Sys2Proof.Machine.execPha s
  | .eorImm v => Sys2Proof.Machine.execEorImm v s
  | .lsrAcc => Sys2Proof.Machine.execLsrAcc s
  | .jmpAbs a => Sys2Proof.Machine.execJmpAbs a s
  | .eorAbs a => Sys2Proof.Machine.execEorAbs a s
  | .lsrAbs a => Sys2Proof.Machine.execLsrAbs a s
  | .bvc d => Sys2Proof.Machine.execBvc d s
  | .eorIndy b => Sys2Proof.Machine.execEorIndy b s
  | .eorZpx b => Sys2Proof.Machine.execEorZpx b s
  | .lsrZpx b => Sys2Proof.Machine.execLsrZpx b s
  | .cli => Sys2Proof.Machine.execCli s
  | .eorAbsy a => Sys2Proof.Machine.execEorAbsy a s
  | .eorAbsx a => Sys2Proof.Machine.execEorAbsx a s
  | .lsrAbsx a => Sys2Proof.Machine.execLsrAbsx a s
  | .rts => Sys2Proof.Machine.execRts s
  | .adcIndx b => Sys2Proof.Machine.execAdcIndx b s
  | .adcZp b => Sys2Proof.Machine.execAdcZp b s
  | .rorZp b => Sys2Proof.Machine.execRorZp b s
  | .pla => Sys2Proof.Machine.execPla s
  | .adcImm v => Sys2Proof.Machine.execAdcImm v s
  | .rorAcc => Sys2Proof.Machine.execRorAcc s
  | .jmpInd a => Sys2Proof.Machine.execJmpInd a s
  | .adcAbs a => Sys2Proof.Machine.execAdcAbs a s
  | .rorAbs a => Sys2Proof.Machine.execRorAbs a s
  | .bvs d => Sys2Proof.Machine.execBvs d s
  | .adcIndy b => Sys2Proof.Machine.execAdcIndy b s
  | .adcZpx b => Sys2Proof.Machine.execAdcZpx b s
  | .rorZpx b => Sys2Proof.Machine.execRorZpx b s
  | .sei => Sys2Proof.Machine.execSei s
  | .adcAbsy a => Sys2Proof.Machine.execAdcAbsy a s
  | .adcAbsx a => Sys2Proof.Machine.execAdcAbsx a s
  | .rorAbsx a => Sys2Proof.Machine.execRorAbsx a s
  | .staIndx b => Sys2Proof.Machine.execStaIndx b s
  | .styZp b => Sys2Proof.Machine.execStyZp b s
  | .staZp b => Sys2Proof.Machine.execStaZp b s
  | .stxZp b => Sys2Proof.Machine.execStxZp b s
  | .dey => Sys2Proof.Machine.execDey s
  | .txa => Sys2Proof.Machine.execTxa s
  | .styAbs a => Sys2Proof.Machine.execStyAbs a s
  | .staAbs a => Sys2Proof.Machine.execStaAbs a s
  | .stxAbs a => Sys2Proof.Machine.execStxAbs a s
  | .bcc d => Sys2Proof.Machine.execBcc d s
  | .staIndy b => Sys2Proof.Machine.execStaIndy b s
  | .styZpx b => Sys2Proof.Machine.execStyZpx b s
  | .staZpx b => Sys2Proof.Machine.execStaZpx b s
  | .stxZpy b => Sys2Proof.Machine.execStxZpy b s
  | .tya => Sys2Proof.Machine.execTya s
  | .staAbsy a => Sys2Proof.Machine.execStaAbsy a s
  | .txs => Sys2Proof.Machine.execTxs s
  | .staAbsx a => Sys2Proof.Machine.execStaAbsx a s
  | .ldyImm v => Sys2Proof.Machine.execLdyImm v s
  | .ldaIndx b => Sys2Proof.Machine.execLdaIndx b s
  | .ldxImm v => Sys2Proof.Machine.execLdxImm v s
  | .ldyZp b => Sys2Proof.Machine.execLdyZp b s
  | .ldaZp b => Sys2Proof.Machine.execLdaZp b s
  | .ldxZp b => Sys2Proof.Machine.execLdxZp b s
  | .tay => Sys2Proof.Machine.execTay s
  | .ldaImm v => Sys2Proof.Machine.execLdaImm v s
  | .tax => Sys2Proof.Machine.execTax s
  | .ldyAbs a => Sys2Proof.Machine.execLdyAbs a s
  | .ldaAbs a => Sys2Proof.Machine.execLdaAbs a s
  | .ldxAbs a => Sys2Proof.Machine.execLdxAbs a s
  | .bcs d => Sys2Proof.Machine.execBcs d s
  | .ldaIndy b => Sys2Proof.Machine.execLdaIndy b s
  | .ldyZpx b => Sys2Proof.Machine.execLdyZpx b s
  | .ldaZpx b => Sys2Proof.Machine.execLdaZpx b s
  | .ldxZpy b => Sys2Proof.Machine.execLdxZpy b s
  | .clv => Sys2Proof.Machine.execClv s
  | .ldaAbsy a => Sys2Proof.Machine.execLdaAbsy a s
  | .tsx => Sys2Proof.Machine.execTsx s
  | .ldyAbsx a => Sys2Proof.Machine.execLdyAbsx a s
  | .ldaAbsx a => Sys2Proof.Machine.execLdaAbsx a s
  | .ldxAbsy a => Sys2Proof.Machine.execLdxAbsy a s
  | .cpyImm v => Sys2Proof.Machine.execCpyImm v s
  | .cmpIndx b => Sys2Proof.Machine.execCmpIndx b s
  | .cpyZp b => Sys2Proof.Machine.execCpyZp b s
  | .cmpZp b => Sys2Proof.Machine.execCmpZp b s
  | .decZp b => Sys2Proof.Machine.execDecZp b s
  | .iny => Sys2Proof.Machine.execIny s
  | .cmpImm v => Sys2Proof.Machine.execCmpImm v s
  | .dex => Sys2Proof.Machine.execDex s
  | .cpyAbs a => Sys2Proof.Machine.execCpyAbs a s
  | .cmpAbs a => Sys2Proof.Machine.execCmpAbs a s
  | .decAbs a => Sys2Proof.Machine.execDecAbs a s
  | .bne d => Sys2Proof.Machine.execBne d s
  | .cmpIndy b => Sys2Proof.Machine.execCmpIndy b s
  | .cmpZpx b => Sys2Proof.Machine.execCmpZpx b s
  | .decZpx b => Sys2Proof.Machine.execDecZpx b s
  | .cld => Sys2Proof.Machine.execCld s
  | .cmpAbsy a => Sys2Proof.Machine.execCmpAbsy a s
  | .cmpAbsx a => Sys2Proof.Machine.execCmpAbsx a s
  | .decAbsx a => Sys2Proof.Machine.execDecAbsx a s
  | .cpxImm v => Sys2Proof.Machine.execCpxImm v s
  | .sbcIndx b => Sys2Proof.Machine.execSbcIndx b s
  | .cpxZp b => Sys2Proof.Machine.execCpxZp b s
  | .sbcZp b => Sys2Proof.Machine.execSbcZp b s
  | .incZp b => Sys2Proof.Machine.execIncZp b s
  | .inx => Sys2Proof.Machine.execInx s
  | .sbcImm v => Sys2Proof.Machine.execSbcImm v s
  | .nop => Sys2Proof.Machine.execNop s
  | .cpxAbs a => Sys2Proof.Machine.execCpxAbs a s
  | .sbcAbs a => Sys2Proof.Machine.execSbcAbs a s
  | .incAbs a => Sys2Proof.Machine.execIncAbs a s
  | .beq d => Sys2Proof.Machine.execBeq d s
  | .sbcIndy b => Sys2Proof.Machine.execSbcIndy b s
  | .sbcZpx b => Sys2Proof.Machine.execSbcZpx b s
  | .incZpx b => Sys2Proof.Machine.execIncZpx b s
  | .sed => Sys2Proof.Machine.execSed s
  | .sbcAbsy a => Sys2Proof.Machine.execSbcAbsy a s
  | .sbcAbsx a => Sys2Proof.Machine.execSbcAbsx a s
  | .incAbsx a => Sys2Proof.Machine.execIncAbsx a s
  | .undoc02 => Sys2Proof.Machine.execUndoc02 s
  | .undoc03 => Sys2Proof.Machine.execUndoc03 s
  | .undoc04 => Sys2Proof.Machine.execUndoc04 s
  | .undoc07 => Sys2Proof.Machine.execUndoc07 s
  | .undoc0B => Sys2Proof.Machine.execUndoc0B s
  | .undoc0C => Sys2Proof.Machine.execUndoc0C s
  | .undoc0F => Sys2Proof.Machine.execUndoc0F s
  | .undoc12 => Sys2Proof.Machine.execUndoc12 s
  | .undoc13 => Sys2Proof.Machine.execUndoc13 s
  | .undoc14 => Sys2Proof.Machine.execUndoc14 s
  | .undoc17 => Sys2Proof.Machine.execUndoc17 s
  | .undoc1A => Sys2Proof.Machine.execUndoc1A s
  | .undoc1B => Sys2Proof.Machine.execUndoc1B s
  | .undoc1C => Sys2Proof.Machine.execUndoc1C s
  | .undoc1F => Sys2Proof.Machine.execUndoc1F s
  | .undoc22 => Sys2Proof.Machine.execUndoc22 s
  | .undoc23 => Sys2Proof.Machine.execUndoc23 s
  | .undoc27 => Sys2Proof.Machine.execUndoc27 s
  | .undoc2B => Sys2Proof.Machine.execUndoc2B s
  | .undoc2F => Sys2Proof.Machine.execUndoc2F s
  | .undoc32 => Sys2Proof.Machine.execUndoc32 s
  | .undoc33 => Sys2Proof.Machine.execUndoc33 s
  | .undoc34 => Sys2Proof.Machine.execUndoc34 s
  | .undoc37 => Sys2Proof.Machine.execUndoc37 s
  | .undoc3A => Sys2Proof.Machine.execUndoc3A s
  | .undoc3B => Sys2Proof.Machine.execUndoc3B s
  | .undoc3C => Sys2Proof.Machine.execUndoc3C s
  | .undoc3F => Sys2Proof.Machine.execUndoc3F s
  | .undoc42 => Sys2Proof.Machine.execUndoc42 s
  | .undoc43 => Sys2Proof.Machine.execUndoc43 s
  | .undoc44 => Sys2Proof.Machine.execUndoc44 s
  | .undoc47 => Sys2Proof.Machine.execUndoc47 s
  | .undoc4B => Sys2Proof.Machine.execUndoc4B s
  | .undoc4F => Sys2Proof.Machine.execUndoc4F s
  | .undoc52 => Sys2Proof.Machine.execUndoc52 s
  | .undoc53 => Sys2Proof.Machine.execUndoc53 s
  | .undoc54 => Sys2Proof.Machine.execUndoc54 s
  | .undoc57 => Sys2Proof.Machine.execUndoc57 s
  | .undoc5A => Sys2Proof.Machine.execUndoc5A s
  | .undoc5B => Sys2Proof.Machine.execUndoc5B s
  | .undoc5C => Sys2Proof.Machine.execUndoc5C s
  | .undoc5F => Sys2Proof.Machine.execUndoc5F s
  | .undoc62 => Sys2Proof.Machine.execUndoc62 s
  | .undoc63 => Sys2Proof.Machine.execUndoc63 s
  | .undoc64 => Sys2Proof.Machine.execUndoc64 s
  | .undoc67 => Sys2Proof.Machine.execUndoc67 s
  | .undoc6B => Sys2Proof.Machine.execUndoc6B s
  | .undoc6F => Sys2Proof.Machine.execUndoc6F s
  | .undoc72 => Sys2Proof.Machine.execUndoc72 s
  | .undoc73 => Sys2Proof.Machine.execUndoc73 s
  | .undoc74 => Sys2Proof.Machine.execUndoc74 s
  | .undoc77 => Sys2Proof.Machine.execUndoc77 s
  | .undoc7A => Sys2Proof.Machine.execUndoc7A s
  | .undoc7B => Sys2Proof.Machine.execUndoc7B s
  | .undoc7C => Sys2Proof.Machine.execUndoc7C s
  | .undoc7F => Sys2Proof.Machine.execUndoc7F s
  | .undoc80 => Sys2Proof.Machine.execUndoc80 s
  | .undoc82 => Sys2Proof.Machine.execUndoc82 s
  | .undoc83 => Sys2Proof.Machine.execUndoc83 s
  | .undoc87 => Sys2Proof.Machine.execUndoc87 s
  | .undoc89 => Sys2Proof.Machine.execUndoc89 s
  | .undoc8B => Sys2Proof.Machine.execUndoc8B s
  | .undoc8F => Sys2Proof.Machine.execUndoc8F s
  | .undoc92 => Sys2Proof.Machine.execUndoc92 s
  | .undoc93 => Sys2Proof.Machine.execUndoc93 s
  | .undoc97 => Sys2Proof.Machine.execUndoc97 s
  | .undoc9B => Sys2Proof.Machine.execUndoc9B s
  | .undoc9C => Sys2Proof.Machine.execUndoc9C s
  | .undoc9E => Sys2Proof.Machine.execUndoc9E s
  | .undoc9F => Sys2Proof.Machine.execUndoc9F s
  | .undocA3 => Sys2Proof.Machine.execUndocA3 s
  | .undocA7 => Sys2Proof.Machine.execUndocA7 s
  | .undocAB => Sys2Proof.Machine.execUndocAB s
  | .undocAF => Sys2Proof.Machine.execUndocAF s
  | .undocB2 => Sys2Proof.Machine.execUndocB2 s
  | .undocB3 => Sys2Proof.Machine.execUndocB3 s
  | .undocB7 => Sys2Proof.Machine.execUndocB7 s
  | .undocBB => Sys2Proof.Machine.execUndocBB s
  | .undocBF => Sys2Proof.Machine.execUndocBF s
  | .undocC2 => Sys2Proof.Machine.execUndocC2 s
  | .undocC3 => Sys2Proof.Machine.execUndocC3 s
  | .undocC7 => Sys2Proof.Machine.execUndocC7 s
  | .undocCB => Sys2Proof.Machine.execUndocCB s
  | .undocCF => Sys2Proof.Machine.execUndocCF s
  | .undocD2 => Sys2Proof.Machine.execUndocD2 s
  | .undocD3 => Sys2Proof.Machine.execUndocD3 s
  | .undocD4 => Sys2Proof.Machine.execUndocD4 s
  | .undocD7 => Sys2Proof.Machine.execUndocD7 s
  | .undocDA => Sys2Proof.Machine.execUndocDA s
  | .undocDB => Sys2Proof.Machine.execUndocDB s
  | .undocDC => Sys2Proof.Machine.execUndocDC s
  | .undocDF => Sys2Proof.Machine.execUndocDF s
  | .undocE2 => Sys2Proof.Machine.execUndocE2 s
  | .undocE3 => Sys2Proof.Machine.execUndocE3 s
  | .undocE7 => Sys2Proof.Machine.execUndocE7 s
  | .undocEB => Sys2Proof.Machine.execUndocEB s
  | .undocEF => Sys2Proof.Machine.execUndocEF s
  | .undocF2 => Sys2Proof.Machine.execUndocF2 s
  | .undocF3 => Sys2Proof.Machine.execUndocF3 s
  | .undocF4 => Sys2Proof.Machine.execUndocF4 s
  | .undocF7 => Sys2Proof.Machine.execUndocF7 s
  | .undocFA => Sys2Proof.Machine.execUndocFA s
  | .undocFB => Sys2Proof.Machine.execUndocFB s
  | .undocFC => Sys2Proof.Machine.execUndocFC s
  | .undocFF => Sys2Proof.Machine.execUndocFF s

end Sys2Proof.Machine
end

