-- ==== Sys2Proof/Machine/Fetch.lean ====
section
/-! DEFINITION. Fetching an instruction's bytes, cycle by cycle (30_encoding.md R121; 70_reset_and_hazards.md R520), the ROM
editor (60_exceptions.md R439), and placing an instruction where the next fetch finds it. -/

namespace Sys2Proof.Machine

/-- One fetch cycle: the byte at PC, then `PC++`. -/
def fetchByte (s : State) : Byte × State :=
  ((cycleRead s.cpu.pc s).1, (cycleRead s.cpu.pc s).2.mapCpu Cpu.incPc)

/-- JSR's opcode, the one instruction whose last byte is not read before its other cycles (R541). -/
def jsrOpcode : Byte := 0x20

/-- The byte JSR's cycle 6 will read, from the machine after its cycle 2 (notes/assumptions/11.md). -/
def jsrHighByte (s : State) : Byte := (cycleRead s.cpu.pc (jsrPrelude s)).1

/-- What a fetch answers: the bytes of the instruction and the machine after the cycles that fetched them. -/
def fetchBytes (s : State) : List Byte × State :=
  let op := fetchByte (s.withPipe Latches.idle)
  match rowOf op.1 with
  | .f1 _ => ([op.1], op.2)
  | .f2 _ =>
    let b := fetchByte op.2
    ([op.1, b.1], b.2)
  | .f3 _ =>
    let lo := fetchByte op.2
    if op.1 = jsrOpcode then ([op.1, lo.1, jsrHighByte lo.2], lo.2)
    else
      let hi := fetchByte lo.2
      ([op.1, lo.1, hi.1], hi.2)

/-- The instruction of a fetched byte list; a missing operand byte, which no fetch leaves, reads as 0. -/
def instrOfBytes (bs : List Byte) : Instr := instrOf (bs.getD 0 0) (bs.getD 1 0) (bs.getD 2 0)

/-- Fetching: the instruction and the machine in which its meaning starts. -/
def fetch (s : State) : Instr × State := (instrOfBytes (fetchBytes s).1, (fetchBytes s).2)

/-- The machine after `n` fetch cycles. -/
def fetchCyclesFrom : Nat → State → State
  | 0, s => s
  | n + 1, s => fetchCyclesFrom n (fetchByte s).2

/-! ### The ROM editor -/

/-- The ROM cell a CPU address shows in the active bank, if it shows one. -/
def romCellAt (s : State) (a : Word) : Option Nat :=
  match busTarget a with
  | .cart o =>
    match s.cart.locate o with
    | .rom i => some i
    | .readPort _ => none
    | .writePort _ => none
  | .tia => none
  | .ram _ => none
  | .riot => none

/-- The ROM-byte editor (R439): the ROM byte that the active bank shows at `a` becomes `v`; no hot address, no snoop.
Where the address shows no ROM byte nothing changes (notes/assumptions/17.md). On a machine that is not paused
(`tcyc ≠ 0`), of which R439 says nothing, it edits alike: DESIGN CHOICE (notes/assumptions/26.md). -/
def romEdit (a : Word) (v : Byte) (s : State) : State :=
  match romCellAt s a with
  | some i => s.withCart { s.cart with rom := Memory.write s.cart.rom i v }
  | none => s

/-- Editing bytes at consecutive addresses. -/
def romEditBytes (a : Word) (vs : List Byte) (s : State) : State :=
  match vs with
  | [] => s
  | v :: t => romEditBytes (a + 1) t (romEdit a v s)

/-- Whether an instruction byte can be placed at `a`: it shows a ROM byte and is not hot. -/
def codeCell (s : State) (a : Word) : Bool :=
  (romCellAt s a).isSome && !s.cart.variant.hotOffset (a.toNat % 4096)

/-- The three addresses from `a` on can hold an instruction. -/
def codeRoom (s : State) (a : Word) : Bool := codeCell s a && codeCell s (a + 1) && codeCell s (a + 2)

/-- Where an instruction is placed when the bytes at PC cannot hold one. DESIGN CHOICE (notes/assumptions/5.md). -/
def fallbackPc : Word := 0xFC00

/-- No pending bank switch of the `fe` snoop. -/
def Variant.disarmed (v : Variant) : Variant :=
  match v with
  | .fe bank1 _ => .fe bank1 false
  | .single => .single
  | .hot p bank => .hot p bank
  | .pb s0 s1 s2 => .pb s0 s1 s2
  | .mnet lo rp => .mnet lo rp

/-- The machine whose next fetch reads `bytes`: at an instruction boundary, not stuck, no snoop pending, PC where it is
if ROM shows there, else at `fallbackPc`, and the bytes in ROM at PC (notes/assumptions/5.md). -/
def placeInstruction (bytes : List Byte) (s : State) : State :=
  let s1 := (s.withPipe Latches.idle).withCpuFault none
  let s2 := s1.withCart { s1.cart with variant := s1.cart.variant.disarmed }
  let s3 := if codeRoom s2 s2.cpu.pc then s2 else s2.mapCpu fun c => c.setPc fallbackPc
  romEditBytes s3.cpu.pc bytes s3

end Sys2Proof.Machine
end

