-- ==== Sys2Proof/Machine/Step.lean ====
section
/-! DEFINITION. One step: `single_step()` of 60_exceptions.md R437, the cycles of one whole instruction with the stalled
calls between them (notes/assumptions/6.md). -/

namespace Sys2Proof.Machine

/-- One step. A stuck CPU lets one call pass in which only the devices move (R401; notes/assumptions/18.md); a machine in
mid-instruction finishes that instruction cycle by cycle (R437); at an instruction boundary the instruction at PC is
fetched and its meaning run. -/
def step (s : State) : Host.Outcome State Fault Refusal :=
  if s.stuck then .next (advance s)
  else if s.pipe.tcyc ≠ 0 then .next (singleStep callBound s)
  else exec (fetch s).1 (fetch s).2

/-- The machine with the instruction whose table bits are `w` stored where the next step fetches
(notes/assumptions/5.md). -/
def State.withFetchWord (s : State) (nbits w : Nat) : State := placeInstruction (tableBytes nbits w) s

end Sys2Proof.Machine
end

