-- ==== Sys2Proof/Machine/Hooks.lean ====
section
/-! DEFINITION. What the host does to a machine from outside: building one from a ROM image (20_memory.md R89,
70_reset_and_hazards.md R500), capture and restore (10_state.md R58, 60_exceptions.md R403). The warm reset is `cpuReset`,
the ROM editor `romEdit`, the view of memory `peek`, and `run_until` is `runUntil`. -/

namespace Sys2Proof.Machine

/-- The cartridge of a ROM image under a scheme, in its power-on state, if the image fits the scheme (R89 to R98). -/
def makeCart (cfg : Config) (p : PowerOn) (tag : SchemeTag) (image : List Byte) : Option Cart :=
  (resolveVariant cfg.cartE p tag image.length).map fun v =>
    { tag := tag, romSize := image.length, rom := Memory.writeBytes [] 0 image, variant := v, ram := p.cartRam }

/-- Machine construction: power-on values, then the CPU's `reset()` (R500). An image that does not fit raises
`InvalidCartridgeImage` and no machine is built (R402). -/
def loadCartridge (cfg : Config) (p : PowerOn) (tag : SchemeTag) (image : List Byte) : Result :=
  match makeCart cfg p tag image with
  | some c => .next (cpuReset (State.powerOn cfg p c))
  | none => .fault (.invalidCartridgeImage tag image.length)

/-- What a snapshot carries: the version, the cartridge's identity, and all mutable state but the latches (R58, R403). -/
structure Snapshot where
  version      : Nat
  tag          : SchemeTag
  romSize      : Nat
  rom          : Memory
  cpu          : Cpu
  cpuFault     : Option UnimplementedOpcode
  cycleCounter : Nat
  ram          : Memory
  variant      : Variant
  cartRam      : Memory
  tia          : Tia
  riot         : Riot
  deriving DecidableEq, Repr

/-- The version tag this model writes and accepts. DESIGN CHOICE (notes/assumptions/16.md). -/
def snapshotVersion : Nat := 1

/-- `capture`, at an instruction boundary only (R438, R58); elsewhere `none`, DESIGN CHOICE (notes/assumptions/26.md). -/
def capture (s : State) : Option Snapshot :=
  if s.pipe.tcyc = 0 then
    some
      { version := snapshotVersion, tag := s.cart.tag, romSize := s.cart.romSize, rom := s.cart.rom, cpu := s.cpu,
        cpuFault := s.cpuFault, cycleCounter := s.cycleCounter, ram := s.ram, variant := s.cart.variant,
        cartRam := s.cart.ram, tia := s.tia, riot := s.riot }
  else none

/-- The snapshot was taken by this version from a machine with this cartridge. -/
abbrev Snapshot.Fits (k : Snapshot) (s : State) : Prop :=
  k.version = snapshotVersion ∧ k.tag = s.cart.tag ∧ k.romSize = s.cart.romSize ∧ k.rom = s.cart.rom

/-- `restore` (R403): replaces all mutable state at once, or answers `IncompatibleSnapshot` with nothing changed.
Parameters, inputs, sinks and the draw counter are the target machine's. On a target that is not paused (`tcyc ≠ 0`), of
which R438 says nothing, it does the same and leaves an instruction boundary: DESIGN CHOICE (notes/assumptions/26.md). -/
def restore (s : State) (k : Snapshot) : Result :=
  if k.Fits s then
    .next
      { s with
        cpu := k.cpu, pipe := Latches.idle, cpuFault := k.cpuFault, cycleCounter := k.cycleCounter, ram := k.ram,
        cart := { s.cart with variant := k.variant, ram := k.cartRam }, tia := k.tia, riot := k.riot }
  else .fault (.incompatibleSnapshot k.version)

end Sys2Proof.Machine
end

