-- ==== Sys2Proof/Machine/Schedule.lean ====
section
/-! DEFINITION. The Bus addresses a meaning reads and writes, by class of instruction, each list in the order of its
cycles (70_reset_and_hazards.md R520 to R545), and the cycle counts of R546 and R547. Statements about what an instruction
leaves unchanged and how long it takes are made over these. -/

namespace Sys2Proof.Machine

/-! ### Addresses -/

/-- The pointer and dummy reads that lead to a mode's base address. -/
def MemOperand.baseReads (o : MemOperand) (s : State) : List Word :=
  match o with
  | .zp _ => []
  | .zpx b => [zeroPage b]
  | .zpy b => [zeroPage b]
  | .abs _ => []
  | .absx _ => []
  | .absy _ => []
  | .indx b => [zeroPage b, zeroPage (b + s.cpu.x), zeroPage (b + s.cpu.x + 1)]
  | .indy b => [zeroPage b, zeroPage (b + 1)]

/-- The reads before the data access of a store or a read-modify-write instruction. -/
def MemOperand.addressReads (o : MemOperand) (s : State) : List Word :=
  o.baseReads s ++ if o.corrects then [uncorrected (o.base s).1 (o.base s).2.1] else []

/-- The effective address of a mode (R125 to R132). -/
def MemOperand.effectiveAddress (o : MemOperand) (s : State) : Word := indexed (o.base s).1 (o.base s).2.1

/-- Whether the index carries into the high byte (R546). -/
def MemOperand.pageCrossed (o : MemOperand) (s : State) : Bool :=
  o.corrects && crossesPage (o.base s).1 (o.base s).2.1

/-- All reads of a read instruction. -/
def ReadOperand.reads (o : ReadOperand) (s : State) : List Word :=
  match o with
  | .imm _ => []
  | .mem m =>
    m.baseReads s ++
      if m.pageCrossed s then [uncorrected (m.base s).1 (m.base s).2.1, m.effectiveAddress s]
      else [m.effectiveAddress s]

/-- The address RTS reads on its last cycle: the two pulled bytes (R542). -/
def rtsReturn (s : State) : Word :=
  let s1 := cycleDummy (stackPage s.cpu.s) (cycleDummy s.cpu.pc s)
  wordOf (pull (pull s1).2).1 (pull s1).1

/-- The addresses a meaning reads. -/
def Shape.reads (k : Shape) (s : State) : List Word :=
  match k with
  | .implied _ => [s.cpu.pc]
  | .acc _ => [s.cpu.pc]
  | .read _ o => o.reads s
  | .store _ o => o.addressReads s
  | .rmw _ o => o.addressReads s ++ [o.effectiveAddress s]
  | .branch b d =>
    let t := branchTarget s.cpu.pc d
    if b.holds s.cpu then
      s.cpu.pc :: if highByte t = highByte s.cpu.pc then [] else [wordOf (highByte s.cpu.pc) (lowByte t)]
    else []
  | .jmpAbs _ => []
  | .jmpInd p => [p, wordOf (highByte p) (lowByte p + 1)]
  | .jsr _ => [stackPage s.cpu.s, s.cpu.pc]
  | .rts => [s.cpu.pc, stackPage s.cpu.s, stackPage (s.cpu.s + 1), stackPage (s.cpu.s + 2), rtsReturn s]
  | .push _ => [s.cpu.pc]
  | .pull _ => [s.cpu.pc, stackPage s.cpu.s, stackPage (s.cpu.s + 1)]
  | .brk => [s.cpu.pc, 0xFFFE, 0xFFFF]
  | .rti =>
    [s.cpu.pc, stackPage s.cpu.s, stackPage (s.cpu.s + 1), stackPage (s.cpu.s + 2), stackPage (s.cpu.s + 3)]
  | .undocumented _ =>
    match s.cfg.unimplPolicy with
    | .fatal => []
    | .skip => [s.cpu.pc]

/-- The addresses a meaning writes. -/
def Shape.writes (k : Shape) (s : State) : List Word :=
  match k with
  | .implied _ => []
  | .acc _ => []
  | .read _ _ => []
  | .store _ o => [o.effectiveAddress s]
  | .rmw _ o => [o.effectiveAddress s, o.effectiveAddress s]
  | .branch _ _ => []
  | .jmpAbs _ => []
  | .jmpInd _ => []
  | .jsr _ => [stackPage s.cpu.s, stackPage (s.cpu.s - 1)]
  | .rts => []
  | .push _ => [stackPage s.cpu.s]
  | .pull _ => []
  | .brk => [stackPage s.cpu.s, stackPage (s.cpu.s - 1), stackPage (s.cpu.s - 2)]
  | .rti => []
  | .undocumented _ => []

/-- The writes a further access of the same instruction follows: after one of these a stall falls inside the instruction
(R549). A store's and a push's one write is the last cycle. -/
def Shape.earlyWrites (k : Shape) (s : State) : List Word :=
  match k with
  | .rmw _ o => [o.effectiveAddress s]
  | .jsr a => Shape.writes (.jsr a) s
  | .brk => Shape.writes .brk s
  | .implied _ => []
  | .acc _ => []
  | .read _ _ => []
  | .store _ _ => []
  | .branch _ _ => []
  | .jmpAbs _ => []
  | .jmpInd _ => []
  | .rts => []
  | .push _ => []
  | .pull _ => []
  | .rti => []
  | .undocumented _ => []

/-! ### Cycles -/

/-- The cycles of the fetch: one a byte, but JSR's last byte is read by its own cycle 6 (R541). -/
def Shape.fetchCycles : Shape → Nat
  | .implied _ => 1
  | .acc _ => 1
  | .read _ (.imm _) => 2
  | .read _ (.mem o) => o.operandBytes + 1
  | .store _ o => o.operandBytes + 1
  | .rmw _ o => o.operandBytes + 1
  | .branch _ _ => 2
  | .jmpAbs _ => 3
  | .jmpInd _ => 3
  | .jsr _ => 2
  | .rts => 1
  | .push _ => 1
  | .pull _ => 1
  | .brk => 1
  | .rti => 1
  | .undocumented _ => 1

/-- The cycles of a meaning: one for each access (R520). -/
def Shape.meaningCycles (k : Shape) (s : State) : Nat := (k.reads s).length + (k.writes s).length

/-- The penalty cycles of R546, and the second cycle of an undocumented opcode under `skip` (R153, R547). `s` is the
machine in which the meaning starts. -/
def Shape.penalty (k : Shape) (s : State) : Nat :=
  match k with
  | .read _ (.mem o) => if o.pageCrossed s then 1 else 0
  | .branch b d =>
    if b.holds s.cpu then (if highByte (branchTarget s.cpu.pc d) = highByte s.cpu.pc then 1 else 2) else 0
  | .undocumented _ =>
    match s.cfg.unimplPolicy with
    | .fatal => 0
    | .skip => 1
  | .read _ (.imm _) => 0
  | .implied _ => 0
  | .acc _ => 0
  | .store _ _ => 0
  | .rmw _ _ => 0
  | .jmpAbs _ => 0
  | .jmpInd _ => 0
  | .jsr _ => 0
  | .rts => 0
  | .push _ => 0
  | .pull _ => 0
  | .brk => 0
  | .rti => 0

/-- A write to `a` asserts RDY: TIA write register `$02` (R462). -/
def isWsync (a : Word) : Bool := busTarget a == .tia && a.toNat % 64 == 2

/-! ### Cartridge-RAM cells an access can reach -/

/-- Whether an access at window offset `o` can reach the write port of RAM cell `k` in some bank (R79, R88, R98). -/
def Variant.mayReachPort (v : Variant) (o k : Nat) : Bool :=
  match v with
  | .single => false
  | .hot p _ => decide (o < p.ramSize) && o == k
  | .fe _ _ => false
  | .pb _ _ _ => false
  | .mnet _ _ =>
    (decide (o < 0x400) && o == k) ||
      (decide (0x800 ≤ o) && decide (o < 0x900) && decide (1024 ≤ k) && k % 256 == o - 0x800)

/-- Whether an access at `a` can change cartridge RAM cell `k`. -/
def State.mayTouchCartRam (s : State) (a : Word) (k : Nat) : Bool :=
  match busTarget a with
  | .cart o => s.cart.variant.mayReachPort o k
  | .tia => false
  | .ram _ => false
  | .riot => false

end Sys2Proof.Machine
end

