-- ==== Sys2Proof/WellFormed.lean ====
section
/-! DEFINITION. Which instructions are well formed. Operand widths are in the types, and R152 says that no operand value
is reserved: every 8-bit immediate, every address, every displacement is legal. What is left to check is R150's question,
whether the opcode byte is in the documented table of R140 or one of the 105 bytes of R151. -/

namespace Sys2Proof

/-- The opcode is one of the 151 of R140, not one of the 105 of R151. -/
def Instr.documented : Instr → Bool
  | .brk => true
  | .oraIndx _ => true
  | .oraZp _ => true
  | .aslZp _ => true
  | .php => true
  | .oraImm _ => true
  | .aslAcc => true
  | .oraAbs _ => true
  | .aslAbs _ => true
  | .bpl _ => true
  | .oraIndy _ => true
  | .oraZpx _ => true
  | .aslZpx _ => true
  | .clc => true
  | .oraAbsy _ => true
  | .oraAbsx _ => true
  | .aslAbsx _ => true
  | .jsr _ => true
  | .andIndx _ => true
  | .bitZp _ => true
  | .andZp _ => true
  | .rolZp _ => true
  | .plp => true
  | .andImm _ => true
  | .rolAcc => true
  | .bitAbs _ => true
  | .andAbs _ => true
  | .rolAbs _ => true
  | .bmi _ => true
  | .andIndy _ => true
  | .andZpx _ => true
  | .rolZpx _ => true
  | .sec => true
  | .andAbsy _ => true
  | .andAbsx _ => true
  | .rolAbsx _ => true
  | .rti => true
  | .eorIndx _ => true
  | .eorZp _ => true
  | .lsrZp _ => true
  | .pha => true
  | .eorImm _ => true
  | .lsrAcc => true
  | .jmpAbs _ => true
  | .eorAbs _ => true
  | .lsrAbs _ => true
  | .bvc _ => true
  | .eorIndy _ => true
  | .eorZpx _ => true
  | .lsrZpx _ => true
  | .cli => true
  | .eorAbsy _ => true
  | .eorAbsx _ => true
  | .lsrAbsx _ => true
  | .rts => true
  | .adcIndx _ => true
  | .adcZp _ => true
  | .rorZp _ => true
  | .pla => true
  | .adcImm _ => true
  | .rorAcc => true
  | .jmpInd _ => true
  | .adcAbs _ => true
  | .rorAbs _ => true
  | .bvs _ => true
  | .adcIndy _ => true
  | .adcZpx _ => true
  | .rorZpx _ => true
  | .sei => true
  | .adcAbsy _ => true
  | .adcAbsx _ => true
  | .rorAbsx _ => true
  | .staIndx _ => true
  | .styZp _ => true
  | .staZp _ => true
  | .stxZp _ => true
  | .dey => true
  | .txa => true
  | .styAbs _ => true
  | .staAbs _ => true
  | .stxAbs _ => true
  | .bcc _ => true
  | .staIndy _ => true
  | .styZpx _ => true
  | .staZpx _ => true
  | .stxZpy _ => true
  | .tya => true
  | .staAbsy _ => true
  | .txs => true
  | .staAbsx _ => true
  | .ldyImm _ => true
  | .ldaIndx _ => true
  | .ldxImm _ => true
  | .ldyZp _ => true
  | .ldaZp _ => true
  | .ldxZp _ => true
  | .tay => true
  | .ldaImm _ => true
  | .tax => true
  | .ldyAbs _ => true
  | .ldaAbs _ => true
  | .ldxAbs _ => true
  | .bcs _ => true
  | .ldaIndy _ => true
  | .ldyZpx _ => true
  | .ldaZpx _ => true
  | .ldxZpy _ => true
  | .clv => true
  | .ldaAbsy _ => true
  | .tsx => true
  | .ldyAbsx _ => true
  | .ldaAbsx _ => true
  | .ldxAbsy _ => true
  | .cpyImm _ => true
  | .cmpIndx _ => true
  | .cpyZp _ => true
  | .cmpZp _ => true
  | .decZp _ => true
  | .iny => true
  | .cmpImm _ => true
  | .dex => true
  | .cpyAbs _ => true
  | .cmpAbs _ => true
  | .decAbs _ => true
  | .bne _ => true
  | .cmpIndy _ => true
  | .cmpZpx _ => true
  | .decZpx _ => true
  | .cld => true
  | .cmpAbsy _ => true
  | .cmpAbsx _ => true
  | .decAbsx _ => true
  | .cpxImm _ => true
  | .sbcIndx _ => true
  | .cpxZp _ => true
  | .sbcZp _ => true
  | .incZp _ => true
  | .inx => true
  | .sbcImm _ => true
  | .nop => true
  | .cpxAbs _ => true
  | .sbcAbs _ => true
  | .incAbs _ => true
  | .beq _ => true
  | .sbcIndy _ => true
  | .sbcZpx _ => true
  | .incZpx _ => true
  | .sed => true
  | .sbcAbsy _ => true
  | .sbcAbsx _ => true
  | .incAbsx _ => true
  | .undoc02 => false
  | .undoc03 => false
  | .undoc04 => false
  | .undoc07 => false
  | .undoc0B => false
  | .undoc0C => false
  | .undoc0F => false
  | .undoc12 => false
  | .undoc13 => false
  | .undoc14 => false
  | .undoc17 => false
  | .undoc1A => false
  | .undoc1B => false
  | .undoc1C => false
  | .undoc1F => false
  | .undoc22 => false
  | .undoc23 => false
  | .undoc27 => false
  | .undoc2B => false
  | .undoc2F => false
  | .undoc32 => false
  | .undoc33 => false
  | .undoc34 => false
  | .undoc37 => false
  | .undoc3A => false
  | .undoc3B => false
  | .undoc3C => false
  | .undoc3F => false
  | .undoc42 => false
  | .undoc43 => false
  | .undoc44 => false
  | .undoc47 => false
  | .undoc4B => false
  | .undoc4F => false
  | .undoc52 => false
  | .undoc53 => false
  | .undoc54 => false
  | .undoc57 => false
  | .undoc5A => false
  | .undoc5B => false
  | .undoc5C => false
  | .undoc5F => false
  | .undoc62 => false
  | .undoc63 => false
  | .undoc64 => false
  | .undoc67 => false
  | .undoc6B => false
  | .undoc6F => false
  | .undoc72 => false
  | .undoc73 => false
  | .undoc74 => false
  | .undoc77 => false
  | .undoc7A => false
  | .undoc7B => false
  | .undoc7C => false
  | .undoc7F => false
  | .undoc80 => false
  | .undoc82 => false
  | .undoc83 => false
  | .undoc87 => false
  | .undoc89 => false
  | .undoc8B => false
  | .undoc8F => false
  | .undoc92 => false
  | .undoc93 => false
  | .undoc97 => false
  | .undoc9B => false
  | .undoc9C => false
  | .undoc9E => false
  | .undoc9F => false
  | .undocA3 => false
  | .undocA7 => false
  | .undocAB => false
  | .undocAF => false
  | .undocB2 => false
  | .undocB3 => false
  | .undocB7 => false
  | .undocBB => false
  | .undocBF => false
  | .undocC2 => false
  | .undocC3 => false
  | .undocC7 => false
  | .undocCB => false
  | .undocCF => false
  | .undocD2 => false
  | .undocD3 => false
  | .undocD4 => false
  | .undocD7 => false
  | .undocDA => false
  | .undocDB => false
  | .undocDC => false
  | .undocDF => false
  | .undocE2 => false
  | .undocE3 => false
  | .undocE7 => false
  | .undocEB => false
  | .undocEF => false
  | .undocF2 => false
  | .undocF3 => false
  | .undocF4 => false
  | .undocF7 => false
  | .undocFA => false
  | .undocFB => false
  | .undocFC => false
  | .undocFF => false

/-- The check: a documented opcode (R150, R152; notes/assumptions/22.md). -/
abbrev WellFormed (i : Instr) : Prop := i.documented = true

end Sys2Proof
end

