-- ==== Sys2Proof/Safety.lean ====
section
/-! DEFINITION. What counts as a safe run, in the terms the statements use: the invariant of the machine at an
instruction boundary, what an instruction leaves unchanged, the notion of code at PC, and the forms of each instruction as R140 lists them. -/

namespace Sys2Proof.Machine

/-! ### The invariant -/

/-- The registers with only the bits R39 keeps. -/
def TiaRegs.kept (r : TiaRegs) : TiaRegs where
  vsync := r.vsync &&& 0x02
  vblank := r.vblank &&& 0xC2
  nusiz0 := r.nusiz0 &&& 0x37
  nusiz1 := r.nusiz1 &&& 0x37
  colup0 := r.colup0 &&& 0xFE
  colup1 := r.colup1 &&& 0xFE
  colupf := r.colupf &&& 0xFE
  colubk := r.colubk &&& 0xFE
  ctrlpf := r.ctrlpf &&& 0x37
  refp0 := r.refp0 &&& 0x08
  refp1 := r.refp1 &&& 0x08
  audc0 := r.audc0 &&& 0x0F
  audc1 := r.audc1 &&& 0x0F
  audf0 := r.audf0 &&& 0x1F
  audf1 := r.audf1 &&& 0x1F
  audv0 := r.audv0 &&& 0x0F
  audv1 := r.audv1 &&& 0x0F
  hmp0 := r.hmp0 &&& 0xF0
  hmp1 := r.hmp1 &&& 0xF0
  hmm0 := r.hmm0 &&& 0xF0
  hmm1 := r.hmm1 &&& 0xF0
  hmbl := r.hmbl &&& 0xF0
  vdelp0 := r.vdelp0 &&& 0x01
  vdelp1 := r.vdelp1 &&& 0x01
  vdelbl := r.vdelbl &&& 0x01
  resmp0 := r.resmp0 &&& 0x02
  resmp1 := r.resmp1 &&& 0x02

/-- Every object position is a pixel coordinate (R42). -/
abbrev Positions.OnLine (p : Positions) : Prop := p.p0 < 160 ∧ p.p1 < 160 ∧ p.m0 < 160 ∧ p.m1 < 160 ∧ p.bl < 160

/-- Every pending write has 1 to 9 color clocks to go (R46). -/
abbrev PendingInRange (ws : List PendingWrite) : Prop := ∀ w ∈ ws, 1 ≤ w.remaining ∧ w.remaining ≤ 9

/-- The TIA's part: ranges of R38, R42, R45, R46, and only kept register bits (R39). -/
abbrev Tia.Ok (div : Nat) (t : Tia) : Prop :=
  t.hclock < 228 ∧ t.pos.OnLine ∧ PendingInRange t.pending ∧ t.regs.kept = t.regs ∧ t.gfx.pf0 &&& 0x0F = 0 ∧
  t.audio.pre < div ∧ t.audio.div0 < 32 ∧ t.audio.div1 < 32

/-- The cartridge's part: memories canonical and in range, bank state in range (R37, R79, R96, R98). -/
abbrev Cart.Ok (c : Cart) : Prop :=
  Memory.wf c.rom ∧ Memory.below c.rom c.romSize ∧ Memory.wf c.ram ∧ Memory.below c.ram c.variant.ramSize ∧
  c.variant.inRange = true

/-- A recorded fault names an undocumented opcode (R33, R401). -/
abbrev FaultRecordOk (f : Option UnimplementedOpcode) : Prop :=
  ∀ u ∈ f, ¬ WellFormed (instrOf u.opcode 0 0)

/-- The invariant of the machine at an instruction boundary. The color clock is fixed by the call counter (R433). -/
abbrev State.Inv (s : State) : Prop :=
  s.cfg.Valid ∧ s.pipe = Latches.idle ∧ Memory.wf s.ram ∧ Memory.below s.ram 128 ∧ s.cart.Ok ∧
  s.tia.Ok s.cfg.audioClockDiv ∧ s.tia.hclock = 3 * s.cycleCounter % 228 ∧ s.riot.prescale < s.riot.shift.ticks ∧
  FaultRecordOk s.cpuFault

/-- The delayed writes in the buffer lie at least three color clocks apart: of two, the one written `j` places earlier
has at most `9 - 3 j` clocks to go. So at most three are pending (R46, R430). -/
abbrev PendingSpaced (ws : List PendingWrite) : Prop :=
  ∀ j (h : j < ws.length), (ws.reverse[j]'(by simpa using h)).remaining + 3 * j ≤ 9

/-- Every latch set in `c` is set in `d` (R477). -/
abbrev Collisions.Le (c d : Collisions) : Prop :=
  (c.m0p1 → d.m0p1) ∧ (c.m0p0 → d.m0p0) ∧ (c.m1p0 → d.m1p0) ∧ (c.m1p1 → d.m1p1) ∧ (c.p0pf → d.p0pf) ∧
  (c.p0bl → d.p0bl) ∧ (c.p1pf → d.p1pf) ∧ (c.p1bl → d.p1bl) ∧ (c.m0pf → d.m0pf) ∧ (c.m0bl → d.m0bl) ∧
  (c.m1pf → d.m1pf) ∧ (c.m1bl → d.m1bl) ∧ (c.blpf → d.blpf) ∧ (c.p0p1 → d.p0p1) ∧ (c.m0m1 → d.m0m1)

/-! ### What an access or an instruction leaves unchanged -/

/-- From `s` to `t` with these addresses read and written: every memory cell that no listed access reaches holds what it
held, and no device register changes but those a listed write reaches. Time passes: counters, timer, beam, collision
latches, delayed graphics, sinks and inputs move on, and are not spoken of here. -/
structure Frame (reads writes : List Word) (s t : State) : Prop where
  ram : ∀ k, (∀ a ∈ writes, busTarget a ≠ .ram k) → Memory.read t.ram k = Memory.read s.ram k
  cartRam : ∀ k, (∀ a ∈ reads ++ writes, s.mayTouchCartRam a k = false) →
    Memory.read t.cart.ram k = Memory.read s.cart.ram k
  rom : t.cart.rom = s.cart.rom ∧ t.cart.romSize = s.cart.romSize ∧ t.cart.tag = s.cart.tag
  scheme : t.cart.variant.scheme = s.cart.variant.scheme
  tiaRegs : (∀ a ∈ writes, busTarget a ≠ .tia) → t.tia.regs = s.tia.regs
  riotPorts : (∀ a ∈ writes, busTarget a ≠ .riot) →
    t.riot.ora = s.riot.ora ∧ t.riot.orb = s.riot.orb ∧ t.riot.ddra = s.riot.ddra ∧ t.riot.ddrb = s.riot.ddrb ∧
      t.riot.shift = s.riot.shift
  cfg : t.cfg = s.cfg
  pipe : t.pipe = s.pipe

/-! ### Code at PC -/

/-- Whether a Bus access at `a` can move the `fe` scheme's bank: a switch is pending, or `a` is the trigger (R95). -/
def Variant.snoops (v : Variant) (a : Word) : Bool :=
  match v with
  | .fe _ armed => armed || busAddress a == 0x01FE
  | .single => false
  | .hot _ _ => false
  | .pb _ _ _ => false
  | .mnet _ _ => false

/-- Whether `a` is a hot address of the active scheme (R86). -/
def State.hotAddress (s : State) (a : Word) : Bool :=
  match busTarget a with
  | .cart o => s.cart.variant.hotOffset o
  | .ram _ => false
  | .tia => false
  | .riot => false

/-- The byte at `a` is code that reading leaves in place: a memory cell answers there (RAM, ROM or a RAM read port), the
address is not hot, and no `fe` switch is pending or triggered (R71). -/
def State.codeByte (s : State) (a : Word) : Option Byte :=
  if s.cart.variant.snoops a || s.hotAddress a then none else peek a s

/-- The bytes `bs` stand as code from `a` on. -/
def State.codeAt (s : State) (a : Word) (bs : List Byte) : Prop :=
  match bs with
  | [] => True
  | b :: t => s.codeByte a = some b ∧ State.codeAt s (a + 1) t

/-- JSR reads its last byte after its pushes (R541): neither of them stores over it, and under `fe` neither triggers. -/
def State.jsrOperandStays (s : State) (a : Word) : Prop :=
  (∀ k, busTarget a = .ram k → busTarget (stackPage s.cpu.s) ≠ .ram k ∧ busTarget (stackPage (s.cpu.s - 1)) ≠ .ram k) ∧
  s.cart.variant.snoops (stackPage s.cpu.s) = false ∧ s.cart.variant.snoops (stackPage (s.cpu.s - 1)) = false

/-! ### The forms of each instruction (R140) -/

/-- The forms of a read instruction with operand byte `b` and operand address `a`. -/
def readForms (op : ReadOp) (b : Byte) (a : Word) : List (Instr × ReadOperand) :=
  match op with
  | .lda => [(.ldaImm b, .imm b), (.ldaZp b, .mem (.zp b)), (.ldaZpx b, .mem (.zpx b)), (.ldaAbs a, .mem (.abs a)),
      (.ldaAbsx a, .mem (.absx a)), (.ldaAbsy a, .mem (.absy a)), (.ldaIndx b, .mem (.indx b)), (.ldaIndy b, .mem (.indy b))]
  | .ldx => [(.ldxImm b, .imm b), (.ldxZp b, .mem (.zp b)), (.ldxZpy b, .mem (.zpy b)), (.ldxAbs a, .mem (.abs a)),
      (.ldxAbsy a, .mem (.absy a))]
  | .ldy => [(.ldyImm b, .imm b), (.ldyZp b, .mem (.zp b)), (.ldyZpx b, .mem (.zpx b)), (.ldyAbs a, .mem (.abs a)),
      (.ldyAbsx a, .mem (.absx a))]
  | .adc => [(.adcImm b, .imm b), (.adcZp b, .mem (.zp b)), (.adcZpx b, .mem (.zpx b)), (.adcAbs a, .mem (.abs a)),
      (.adcAbsx a, .mem (.absx a)), (.adcAbsy a, .mem (.absy a)), (.adcIndx b, .mem (.indx b)), (.adcIndy b, .mem (.indy b))]
  | .sbc => [(.sbcImm b, .imm b), (.sbcZp b, .mem (.zp b)), (.sbcZpx b, .mem (.zpx b)), (.sbcAbs a, .mem (.abs a)),
      (.sbcAbsx a, .mem (.absx a)), (.sbcAbsy a, .mem (.absy a)), (.sbcIndx b, .mem (.indx b)), (.sbcIndy b, .mem (.indy b))]
  | .and => [(.andImm b, .imm b), (.andZp b, .mem (.zp b)), (.andZpx b, .mem (.zpx b)), (.andAbs a, .mem (.abs a)),
      (.andAbsx a, .mem (.absx a)), (.andAbsy a, .mem (.absy a)), (.andIndx b, .mem (.indx b)), (.andIndy b, .mem (.indy b))]
  | .ora => [(.oraImm b, .imm b), (.oraZp b, .mem (.zp b)), (.oraZpx b, .mem (.zpx b)), (.oraAbs a, .mem (.abs a)),
      (.oraAbsx a, .mem (.absx a)), (.oraAbsy a, .mem (.absy a)), (.oraIndx b, .mem (.indx b)), (.oraIndy b, .mem (.indy b))]
  | .eor => [(.eorImm b, .imm b), (.eorZp b, .mem (.zp b)), (.eorZpx b, .mem (.zpx b)), (.eorAbs a, .mem (.abs a)),
      (.eorAbsx a, .mem (.absx a)), (.eorAbsy a, .mem (.absy a)), (.eorIndx b, .mem (.indx b)), (.eorIndy b, .mem (.indy b))]
  | .cmp => [(.cmpImm b, .imm b), (.cmpZp b, .mem (.zp b)), (.cmpZpx b, .mem (.zpx b)), (.cmpAbs a, .mem (.abs a)),
      (.cmpAbsx a, .mem (.absx a)), (.cmpAbsy a, .mem (.absy a)), (.cmpIndx b, .mem (.indx b)), (.cmpIndy b, .mem (.indy b))]
  | .cpx => [(.cpxImm b, .imm b), (.cpxZp b, .mem (.zp b)), (.cpxAbs a, .mem (.abs a))]
  | .cpy => [(.cpyImm b, .imm b), (.cpyZp b, .mem (.zp b)), (.cpyAbs a, .mem (.abs a))]
  | .bit => [(.bitZp b, .mem (.zp b)), (.bitAbs a, .mem (.abs a))]

/-- The forms of a store. -/
def storeForms (r : StoreReg) (b : Byte) (a : Word) : List (Instr × MemOperand) :=
  match r with
  | .a => [(.staZp b, .zp b), (.staZpx b, .zpx b), (.staAbs a, .abs a), (.staAbsx a, .absx a), (.staAbsy a, .absy a),
      (.staIndx b, .indx b), (.staIndy b, .indy b)]
  | .x => [(.stxZp b, .zp b), (.stxZpy b, .zpy b), (.stxAbs a, .abs a)]
  | .y => [(.styZp b, .zp b), (.styZpx b, .zpx b), (.styAbs a, .abs a)]

/-- The memory forms of a read-modify-write instruction. -/
def rmwForms (op : RmwOp) (b : Byte) (a : Word) : List (Instr × MemOperand) :=
  match op with
  | .asl => [(.aslZp b, .zp b), (.aslZpx b, .zpx b), (.aslAbs a, .abs a), (.aslAbsx a, .absx a)]
  | .lsr => [(.lsrZp b, .zp b), (.lsrZpx b, .zpx b), (.lsrAbs a, .abs a), (.lsrAbsx a, .absx a)]
  | .rol => [(.rolZp b, .zp b), (.rolZpx b, .zpx b), (.rolAbs a, .abs a), (.rolAbsx a, .absx a)]
  | .ror => [(.rorZp b, .zp b), (.rorZpx b, .zpx b), (.rorAbs a, .abs a), (.rorAbsx a, .absx a)]
  | .inc => [(.incZp b, .zp b), (.incZpx b, .zpx b), (.incAbs a, .abs a), (.incAbsx a, .absx a)]
  | .dec => [(.decZp b, .zp b), (.decZpx b, .zpx b), (.decAbs a, .abs a), (.decAbsx a, .absx a)]

/-- The base cycle counts of R140 by opcode: no page crossed, no branch taken. An undocumented opcode has 1 (R547). -/
def cycleTable : List Nat :=
  [7, 6, 1, 1, 1, 3, 5, 1, 3, 2, 2, 1, 1, 4, 6, 1] ++
  ([2, 5, 1, 1, 1, 4, 6, 1, 2, 4, 1, 1, 1, 4, 7, 1] ++
  ([6, 6, 1, 1, 3, 3, 5, 1, 4, 2, 2, 1, 4, 4, 6, 1] ++
  ([2, 5, 1, 1, 1, 4, 6, 1, 2, 4, 1, 1, 1, 4, 7, 1] ++
  ([6, 6, 1, 1, 1, 3, 5, 1, 3, 2, 2, 1, 3, 4, 6, 1] ++
  ([2, 5, 1, 1, 1, 4, 6, 1, 2, 4, 1, 1, 1, 4, 7, 1] ++
  ([6, 6, 1, 1, 1, 3, 5, 1, 4, 2, 2, 1, 5, 4, 6, 1] ++
  ([2, 5, 1, 1, 1, 4, 6, 1, 2, 4, 1, 1, 1, 4, 7, 1] ++
  ([1, 6, 1, 1, 3, 3, 3, 1, 2, 1, 2, 1, 4, 4, 4, 1] ++
  ([2, 6, 1, 1, 4, 4, 4, 1, 2, 5, 2, 1, 1, 5, 1, 1] ++
  ([2, 6, 2, 1, 3, 3, 3, 1, 2, 2, 2, 1, 4, 4, 4, 1] ++
  ([2, 5, 1, 1, 4, 4, 4, 1, 2, 4, 2, 1, 4, 4, 4, 1] ++
  ([2, 6, 1, 1, 3, 3, 5, 1, 2, 2, 2, 1, 4, 4, 6, 1] ++
  ([2, 5, 1, 1, 1, 4, 6, 1, 2, 4, 1, 1, 1, 4, 7, 1] ++
  ([2, 6, 1, 1, 3, 3, 5, 1, 2, 2, 2, 1, 4, 4, 6, 1] ++
  [2, 5, 1, 1, 1, 4, 6, 1, 2, 4, 1, 1, 1, 4, 7, 1]))))))))))))))

/-- The base cycle count of an instruction in that table. -/
def tableCycles (i : Instr) : Nat := cycleTable.getD ((encode i).headD 0).toNat 0

/-- The number a byte stands for as two decimal digits (R187). -/
def bcdValue (v : Byte) : Nat := v.toNat / 16 * 10 + v.toNat % 16

/-- The status byte that PHP and BRK push, by its bit weights: bits 5 and 4 are 1 (R24, R177, R258). -/
def statusByte (c : Cpu) : Byte :=
  BitVec.ofNat 8 (128 * c.n.toNat + 64 * c.v.toNat + 32 + 16 + 8 * c.d.toNat + 4 * c.i.toNat + 2 * c.z.toNat + c.c.toNat)

/-- `m` is the operand byte `M` of R160 for operand `o` in state `s`: what the mode's cycles read, which is the immediate
itself, and is the RAM cell's byte where the effective address selects RAM. -/
def OperandIs (o : ReadOperand) (s : State) (m : Byte) : Prop :=
  m = (o.read s).1 ∧
  match o with
  | .imm v => m = v
  | .mem x => ∀ k, busTarget (x.effectiveAddress s) = .ram k → m = Memory.read s.ram k

end Sys2Proof.Machine
end

