-- ==== Sys2Proof/Certificates/Slice0/Obligations.lean ====
section
/-! DEFINITION. The statements of this row, from the numbered rules of spec/. Each docstring names the rules it formalises;
OBLIGATIONS.json lists them. A meaning starts where the fetch of its words ends, so in a statement about `exec` the PC of
`s` is the address of the next instruction (JSR: of its last byte). -/

section

open Sys2Proof Sys2Proof.Machine

/-! ### Encoding -/

/-- Every instruction's bytes, followed by any others, decode to it and leave the others (R120, R121, R140). -/
def Obligations.DecodeInvertsEncode : Prop :=
  ∀ (i : Instr) (rest : List Byte), decode (encode i ++ rest) = .ok (i, rest)

/-- Whatever decodes has the bytes of the instruction it decodes to, and three bytes always decode (R121, R152). -/
def Obligations.EncodeInvertsDecode : Prop :=
  (∀ (bs rest : List Byte) (i : Instr), decode bs = .ok (i, rest) → bs = encode i ++ rest) ∧
  ∀ (op b1 b2 : Byte) (rest : List Byte), ∃ i r, decode (op :: b1 :: b2 :: rest) = .ok (i, r)

/-- The undocumented opcodes are the 105 bytes of R151 and no others, whatever bytes follow. -/
def Obligations.UndocumentedOpcodesAreTheListed : Prop :=
  ∀ op b1 b2 : Byte, ¬ WellFormed (instrOf op b1 b2) ↔ op ∈ (([
    0x02, 0x03, 0x04, 0x07, 0x0B, 0x0C, 0x0F, 0x12, 0x13, 0x14, 0x17, 0x1A, 0x1B, 0x1C, 0x1F,
    0x22, 0x23, 0x27, 0x2B, 0x2F, 0x32, 0x33, 0x34, 0x37, 0x3A, 0x3B, 0x3C, 0x3F, 0x42, 0x43,
    0x44, 0x47, 0x4B, 0x4F, 0x52, 0x53, 0x54, 0x57, 0x5A, 0x5B, 0x5C, 0x5F, 0x62, 0x63, 0x64] ++ ([
    0x67, 0x6B, 0x6F, 0x72, 0x73, 0x74, 0x77, 0x7A, 0x7B, 0x7C, 0x7F, 0x80, 0x82, 0x83, 0x87,
    0x89, 0x8B, 0x8F, 0x92, 0x93, 0x97, 0x9B, 0x9C, 0x9E, 0x9F, 0xA3, 0xA7, 0xAB, 0xAF, 0xB2,
    0xB3, 0xB7, 0xBB, 0xBF, 0xC2, 0xC3, 0xC7, 0xCB, 0xCF, 0xD2, 0xD3, 0xD4, 0xD7, 0xDA, 0xDB] ++ [
    0xDC, 0xDF, 0xE2, 0xE3, 0xE7, 0xEB, 0xEF, 0xF2, 0xF3, 0xF4, 0xF7, 0xFA, 0xFB, 0xFC, 0xFF])) : List Byte)

/-- Words written out from R140, R155 and R73, one or two a family, decode to the instructions they stand for. -/
def Obligations.SpecWordsDecode : Prop :=
  ∀ p ∈ ([([0b10101001, 0b00010000], .ldaImm 0x10), ([0b10101101, 0b10000100, 0b00000010], .ldaAbs 0x0284),
      ([0b10010110, 0b10000000], .stxZpy 0x80), ([0b01001000], .pha), ([0b10011010], .txs),
      ([0b01110001, 0b10000000], .adcIndy 0x80), ([0b11001001, 0b00100000], .cmpImm 0x20),
      ([0b00100100, 0b10000000], .bitZp 0x80), ([0b00100110, 0b10000000], .rolZp 0x80), ([0b01101010], .rorAcc),
      ([0b11010000, 0b11111101], .bne 0xFD), ([0b01101100, 0b10000000, 0b00000000], .jmpInd 0x0080),
      ([0b00100000, 0b00000000, 0b11110010], .jsr 0xF200), ([0b00000000], .brk), ([0b11111000], .sed),
      ([0b00000010], .undoc02)] : List (List Byte × Instr)),
    decode p.1 = .ok (p.2, [])

/-! ### A step -/

/-- At an instruction boundary a step fetches one instruction at PC, its first byte the opcode read at PC, one cycle a
byte with PC moved past it, and then runs exactly that instruction (R121, R520; JSR's last byte is its own cycle 6,
R541). -/
def Obligations.StepRunsTheFetchedInstruction : Prop :=
  ∀ s : State, s.stuck = false → s.pipe.tcyc = 0 →
    decode (fetchBytes s).1 = .ok ((fetch s).1, []) ∧
    (fetchBytes s).1.head? = some (cycleRead s.cpu.pc s).1 ∧
    (fetch s).2 = fetchCyclesFrom (fetch s).1.shape.fetchCycles (s.withPipe Latches.idle) ∧
    (fetch s).2.cpu = { s.cpu with pc := s.cpu.pc + BitVec.ofNat 16 (fetch s).1.shape.fetchCycles } ∧
    step s = exec (fetch s).1 (fetch s).2

/-- Where the bytes of `i` stand as code at PC, a step is `exec i`, from the machine in which the fetch cycles have
passed: PC past them, memories, cartridge and device registers as they were (R23, R83, R121). -/
def Obligations.StepRunsTheCodeAtPc : Prop :=
  ∀ (s : State) (i : Instr), s.stuck = false → s.pipe.tcyc = 0 → s.codeAt s.cpu.pc (encode i) →
    (∀ a, i = .jsr a → s.jsrOperandStays (s.cpu.pc + 2)) →
    ∃ t, step s = exec i t ∧ t = fetchCyclesFrom i.shape.fetchCycles (s.withPipe Latches.idle) ∧
      t.cpu = { s.cpu with pc := s.cpu.pc + BitVec.ofNat 16 i.shape.fetchCycles } ∧ t.pipe = Latches.idle ∧
      t.cpuFault = s.cpuFault ∧ t.ram = s.ram ∧ t.cart = s.cart ∧ t.cfg = s.cfg ∧ t.tia.regs = s.tia.regs ∧
      t.riot.ora = s.riot.ora ∧ t.riot.orb = s.riot.orb ∧ t.riot.ddra = s.riot.ddra ∧ t.riot.ddrb = s.riot.ddrb

/-- A step, which runs whole instructions, is the single step of R437, which repeats `advance()` cycle by cycle, in every
state: at a boundary, in mid-instruction, stalled or stuck (R430, R435, R437, R520 to R545). That one step of the model is
one single step is the model's choice (notes/assumptions/6.md, 18.md). -/
def Obligations.StepIsTheSingleStep : Prop :=
  ∀ s : State, step s = .next (singleStep callBound s)

/-- The invariant holds after reset. It rests on the model's reset values (notes/assumptions/2.md to 5.md). -/
def Obligations.ResetMeetsTheInvariant : Prop :=
  State.reset.Inv

/-- Every step keeps the invariant: canonical memories in range, a legal bank, only kept register bits, positions on the
line, pending delays and dividers in range, the color clock fixed by the call counter (R37 to R50, R433). -/
def Obligations.StepKeepsTheInvariant : Prop :=
  ∀ s t : State, s.Inv → step s = .next t → t.Inv

/-- Every step keeps the spacing of the future-pixel buffer, and so never more than three writes are pending: the bound
of R46, for all registers together. -/
def Obligations.StepKeepsThePendingBound : Prop :=
  ∀ s t : State, s.Inv → PendingSpaced s.tia.pending → step s = .next t →
    PendingSpaced t.tia.pending ∧ t.tia.pending.length ≤ 3

/-- No step changes a parameter, the ROM or the scheme, none clears a recorded fault, time moves on, and the sinks are
only appended to (R33, R34, R37, R52, R87, R470, R486). -/
def Obligations.StepKeepsTheParameters : Prop :=
  ∀ s t : State, step s = .next t →
    t.cfg = s.cfg ∧ t.cart.rom = s.cart.rom ∧ t.cart.romSize = s.cart.romSize ∧ t.cart.tag = s.cart.tag ∧
    t.cart.variant.scheme = s.cart.variant.scheme ∧ (s.cpuFault.isSome = true → t.cpuFault.isSome = true) ∧
    s.cycleCounter < t.cycleCounter ∧ (∃ l, t.video = l ++ s.video) ∧ ∃ l, t.audioOut = l ++ s.audioOut

/-- The stored B flag is read by nothing: a machine that differs from another in it alone steps to a machine that differs
in it at most (R27). -/
def Obligations.BFlagIsNotObservable : Prop :=
  ∀ (s t : State) (b : Bool), s.pipe.tcyc = 0 → step s = .next t →
    ∃ b', step (s.mapCpu fun c => { c with b := b }) = .next (t.mapCpu fun c => { c with b := b' })

/-! ### Operands -/

/-- What each addressing mode reads on its way and where its operand lies, for read instructions and for stores and
read-modify-write instructions (R124 to R132, R524 to R537). -/
def Obligations.AddressingModes : Prop :=
  ∀ (b : Byte) (a : Word) (s : State),
    (MemOperand.zp b).read s = cycleRead (zeroPage b) s ∧
    (MemOperand.zpx b).read s = cycleRead (zeroPage (b + s.cpu.x)) (cycleDummy (zeroPage b) s) ∧
    (MemOperand.zpy b).read s = cycleRead (zeroPage (b + s.cpu.y)) (cycleDummy (zeroPage b) s) ∧
    (MemOperand.abs a).read s = cycleRead a s ∧
    (∀ p ∈ [(MemOperand.absx a, s.cpu.x), (MemOperand.absy a, s.cpu.y)],
      p.1.read s =
        (if 255 < a.toNat % 256 + p.2.toNat then
          cycleRead (a + zext16 p.2) (cycleDummy (wordOf (highByte a) (lowByte a + p.2)) s)
        else cycleRead (a + zext16 p.2) s) ∧
      p.1.address s = (a + zext16 p.2, cycleDummy (wordOf (highByte a) (lowByte a + p.2)) s) ∧
      p.1.effectiveAddress s = a + zext16 p.2) ∧
    (let lo := cycleRead (zeroPage (b + s.cpu.x)) (cycleDummy (zeroPage b) s)
     let hi := cycleRead (zeroPage (b + s.cpu.x + 1)) lo.2
     (MemOperand.indx b).read s = cycleRead (wordOf hi.1 lo.1) hi.2 ∧
     (MemOperand.indx b).address s = (wordOf hi.1 lo.1, hi.2) ∧
     (MemOperand.indx b).effectiveAddress s = wordOf hi.1 lo.1) ∧
    (let lo := cycleRead (zeroPage b) s
     let hi := cycleRead (zeroPage (b + 1)) lo.2
     let ea := wordOf hi.1 lo.1 + zext16 s.cpu.y
     let u := wordOf hi.1 (lo.1 + s.cpu.y)
     (MemOperand.indy b).read s =
       (if 255 < lo.1.toNat + s.cpu.y.toNat then cycleRead ea (cycleDummy u hi.2) else cycleRead ea hi.2) ∧
     (MemOperand.indy b).address s = (ea, cycleDummy u hi.2) ∧
     (MemOperand.indy b).effectiveAddress s = ea) ∧
    (MemOperand.zp b).address s = (zeroPage b, s) ∧ (MemOperand.zp b).effectiveAddress s = zeroPage b ∧
    (MemOperand.zpx b).address s = (zeroPage (b + s.cpu.x), cycleDummy (zeroPage b) s) ∧
    (MemOperand.zpx b).effectiveAddress s = zeroPage (b + s.cpu.x) ∧
    (MemOperand.zpy b).address s = (zeroPage (b + s.cpu.y), cycleDummy (zeroPage b) s) ∧
    (MemOperand.zpy b).effectiveAddress s = zeroPage (b + s.cpu.y) ∧
    (MemOperand.abs a).address s = (a, s) ∧ (MemOperand.abs a).effectiveAddress s = a

/-! ### What the instructions do -/

/-- LDA, LDX, LDY in every mode: the register takes the operand byte, N and Z follow it, nothing else of the CPU changes
and nothing is stored (R160 to R163). -/
def Obligations.LoadResults : Prop :=
  ∀ (b : Byte) (a : Word) (s : State),
    (∀ p ∈ readForms .lda b a, ∃ t m, exec p.1 s = .next t ∧ OperandIs p.2 s m ∧
      t.cpu = { s.cpu with a := m, n := m.getLsbD 7, z := decide (m = 0) } ∧ t.cpuFault = s.cpuFault ∧
      Frame (p.2.reads s) [] s t) ∧
    (∀ p ∈ readForms .ldx b a, ∃ t m, exec p.1 s = .next t ∧ OperandIs p.2 s m ∧
      t.cpu = { s.cpu with x := m, n := m.getLsbD 7, z := decide (m = 0) } ∧ t.cpuFault = s.cpuFault ∧
      Frame (p.2.reads s) [] s t) ∧
    (∀ p ∈ readForms .ldy b a, ∃ t m, exec p.1 s = .next t ∧ OperandIs p.2 s m ∧
      t.cpu = { s.cpu with y := m, n := m.getLsbD 7, z := decide (m = 0) } ∧ t.cpuFault = s.cpuFault ∧
      Frame (p.2.reads s) [] s t)

/-- STA, STX, STY in every mode: one write of the register at the effective address after the mode's reads, no register
or flag changes, and only that byte of RAM can (R160, R164 to R166). -/
def Obligations.StoreResults : Prop :=
  ∀ (b : Byte) (a : Word) (s : State),
    ∀ q ∈ [(StoreReg.a, s.cpu.a), (StoreReg.x, s.cpu.x), (StoreReg.y, s.cpu.y)], ∀ p ∈ storeForms q.1 b a,
      ∃ t, exec p.1 s = .next t ∧ t = cycleWrite (p.2.effectiveAddress s) q.2 (p.2.address s).2 ∧
        t.cpu = s.cpu ∧ t.cpuFault = s.cpuFault ∧
        (∀ k, busTarget (p.2.effectiveAddress s) = .ram k → Memory.read t.ram k = q.2) ∧
        Frame (p.2.addressReads s) [p.2.effectiveAddress s] s t

/-- ADC and SBC with D = 0, in integers: the sum or difference with carry, C its unsigned carry or not-borrow, V whether
the two's-complement result leaves -128..127, N and Z of the result (R185, R186, R188). -/
def Obligations.BinaryAddAndSubtract : Prop :=
  ∀ (b : Byte) (a : Word) (s : State), s.cpu.d = false →
    (∀ p ∈ readForms .adc b a, ∃ t m, exec p.1 s = .next t ∧ OperandIs p.2 s m ∧
      (let sum := s.cpu.a.toNat + m.toNat + s.cpu.c.toNat
       let signed := s.cpu.a.toInt + m.toInt + (s.cpu.c.toNat : Int)
       t.cpu = { s.cpu with
         a := BitVec.ofNat 8 sum, n := decide (128 ≤ sum % 256), z := decide (sum % 256 = 0), c := decide (255 < sum),
         v := decide (signed < -128 ∨ 127 < signed) }) ∧
      t.cpuFault = s.cpuFault ∧ Frame (p.2.reads s) [] s t) ∧
    (∀ p ∈ readForms .sbc b a, ∃ t m, exec p.1 s = .next t ∧ OperandIs p.2 s m ∧
      (let borrow : Int := if s.cpu.c then 0 else 1
       let diff : Int := (s.cpu.a.toNat : Int) - (m.toNat : Int) - borrow
       let signed := s.cpu.a.toInt - m.toInt - borrow
       t.cpu = { s.cpu with
         a := BitVec.ofInt 8 diff, n := decide (128 ≤ diff % 256), z := decide (diff % 256 = 0), c := decide (0 ≤ diff),
         v := decide (signed < -128 ∨ 127 < signed) }) ∧
      t.cpuFault = s.cpuFault ∧ Frame (p.2.reads s) [] s t)

/-- ADC and SBC with D = 1 and `DECIMAL_FLAGS = nmos`: the steps of R187 and R189, the flags taken where they say, and
for operands that are valid BCD the decimal sum and difference. -/
def Obligations.DecimalAddAndSubtract : Prop :=
  ∀ (b : Byte) (a : Word) (s : State), s.cpu.d = true → s.cfg.decimalFlags = .nmos →
    (∀ p ∈ readForms .adc b a, ∃ t m, exec p.1 s = .next t ∧ OperandIs p.2 s m ∧
      (let lo := s.cpu.a.toNat % 16 + m.toNat % 16 + s.cpu.c.toNat
       let lo := if 9 < lo then (lo + 6) % 16 + 16 else lo
       let u := s.cpu.a.toNat / 16 * 16 + m.toNat / 16 * 16 + lo
       let r := if 0xA0 ≤ u then u + 0x60 else u
       t.cpu = { s.cpu with
         a := BitVec.ofNat 8 r, n := u.testBit 7, c := decide (0x100 ≤ r),
         v := ((s.cpu.a ^^^ BitVec.ofNat 8 u) &&& (m ^^^ BitVec.ofNat 8 u)).getLsbD 7,
         z := decide ((s.cpu.a.toNat + m.toNat + s.cpu.c.toNat) % 256 = 0) }) ∧
      (validBcd s.cpu.a = true → validBcd m = true →
        validBcd t.cpu.a = true ∧
        bcdValue s.cpu.a + bcdValue m + s.cpu.c.toNat = 100 * t.cpu.c.toNat + bcdValue t.cpu.a) ∧
      t.cpuFault = s.cpuFault ∧ Frame (p.2.reads s) [] s t) ∧
    (∀ p ∈ readForms .sbc b a, ∃ t m, exec p.1 s = .next t ∧ OperandIs p.2 s m ∧
      (let borrow : Int := if s.cpu.c then 0 else 1
       let diff : Int := (s.cpu.a.toNat : Int) - (m.toNat : Int) - borrow
       let signed := s.cpu.a.toInt - m.toInt - borrow
       let lo : Int := ((s.cpu.a.toNat % 16 : Nat) : Int) - ((m.toNat % 16 : Nat) : Int) - borrow
       let lo : Int := if lo < 0 then (lo - 6) % 16 - 16 else lo
       let u : Int := ((s.cpu.a.toNat / 16 * 16 : Nat) : Int) - ((m.toNat / 16 * 16 : Nat) : Int) + lo
       t.cpu = { s.cpu with
         a := BitVec.ofInt 8 (if u < 0 then u - 0x60 else u), n := decide (128 ≤ diff % 256),
         z := decide (diff % 256 = 0), c := decide (0 ≤ diff), v := decide (signed < -128 ∨ 127 < signed) } ∧
       (validBcd s.cpu.a = true → validBcd m = true →
        validBcd t.cpu.a = true ∧
        (bcdValue t.cpu.a : Int) = ((bcdValue s.cpu.a : Int) - (bcdValue m : Int) - borrow) % 100 ∧
        (t.cpu.c = true ↔ 0 ≤ (bcdValue s.cpu.a : Int) - (bcdValue m : Int) - borrow))) ∧
      t.cpuFault = s.cpuFault ∧ Frame (p.2.reads s) [] s t)

/-- ADC and SBC with D = 1 and `DECIMAL_FLAGS = any`: on valid BCD operands A and C are the decimal result, and N, V, Z
are whatever they are; on other operands A and C are open too (93_implementation_defined.md U2, U3). Nothing else of the
CPU changes. The free values are the model's (notes/assumptions/8.md). -/
def Obligations.DecimalWithOpenFlags : Prop :=
  ∀ (b : Byte) (a : Word) (s : State), s.cpu.d = true → s.cfg.decimalFlags = .any →
    (∀ p ∈ readForms .adc b a, ∃ t m, exec p.1 s = .next t ∧ OperandIs p.2 s m ∧
      t.cpu = { s.cpu with a := t.cpu.a, n := t.cpu.n, v := t.cpu.v, z := t.cpu.z, c := t.cpu.c } ∧
      (validBcd s.cpu.a = true → validBcd m = true →
        validBcd t.cpu.a = true ∧
        bcdValue s.cpu.a + bcdValue m + s.cpu.c.toNat = 100 * t.cpu.c.toNat + bcdValue t.cpu.a) ∧
      t.cpuFault = s.cpuFault ∧ Frame (p.2.reads s) [] s t) ∧
    (∀ p ∈ readForms .sbc b a, ∃ t m, exec p.1 s = .next t ∧ OperandIs p.2 s m ∧
      t.cpu = { s.cpu with a := t.cpu.a, n := t.cpu.n, v := t.cpu.v, z := t.cpu.z, c := t.cpu.c } ∧
      (validBcd s.cpu.a = true → validBcd m = true →
        validBcd t.cpu.a = true ∧
        (bcdValue t.cpu.a : Int) =
          ((bcdValue s.cpu.a : Int) - (bcdValue m : Int) - (if s.cpu.c then 0 else 1)) % 100 ∧
        (t.cpu.c = true ↔ 0 ≤ (bcdValue s.cpu.a : Int) - (bcdValue m : Int) - (if s.cpu.c then 0 else 1))) ∧
      t.cpuFault = s.cpuFault ∧ Frame (p.2.reads s) [] s t)

/-- CMP, CPX, CPY: C is the unsigned order, Z equality, N bit 7 of the difference; D has no effect and V, the registers
and the other flags stay (R190 to R192). -/
def Obligations.CompareResults : Prop :=
  ∀ (b : Byte) (a : Word) (s : State),
    ∀ q ∈ [(ReadOp.cmp, s.cpu.a), (ReadOp.cpx, s.cpu.x), (ReadOp.cpy, s.cpu.y)], ∀ p ∈ readForms q.1 b a,
      ∃ t m, exec p.1 s = .next t ∧ OperandIs p.2 s m ∧
        t.cpu = { s.cpu with
          c := decide (m.toNat ≤ q.2.toNat), z := decide (q.2 = m),
          n := decide (128 ≤ ((q.2.toNat : Int) - (m.toNat : Int)) % 256) } ∧
        t.cpuFault = s.cpuFault ∧ Frame (p.2.reads s) [] s t

/-- AND, ORA, EOR write A bit by bit with N and Z of the result; BIT takes N and V from the operand's bits 7 and 6 and Z
from the conjunction; C, D, I, B stay, and V too but for BIT (R200 to R204). -/
def Obligations.LogicResults : Prop :=
  ∀ (b : Byte) (a : Word) (s : State),
    (∀ q ∈ [(ReadOp.and, fun x y : Bool => x && y), (ReadOp.ora, fun x y => x || y), (ReadOp.eor, fun x y => x ^^ y)],
      ∀ p ∈ readForms q.1 b a, ∃ t m, exec p.1 s = .next t ∧ OperandIs p.2 s m ∧
        (∀ k, k < 8 → t.cpu.a.getLsbD k = q.2 (s.cpu.a.getLsbD k) (m.getLsbD k)) ∧
        t.cpu = { s.cpu with a := t.cpu.a, n := t.cpu.a.getLsbD 7, z := decide (t.cpu.a = 0) } ∧
        t.cpuFault = s.cpuFault ∧ Frame (p.2.reads s) [] s t) ∧
    (∀ p ∈ readForms .bit b a, ∃ t m, exec p.1 s = .next t ∧ OperandIs p.2 s m ∧
      t.cpu = { s.cpu with n := m.getLsbD 7, v := m.getLsbD 6, z := decide (s.cpu.a &&& m = 0) } ∧
      t.cpuFault = s.cpuFault ∧ Frame (p.2.reads s) [] s t)

/-- ASL, LSR, ROL, ROR, INC, DEC on memory: the byte is read, written back unchanged and then written with its new value;
C is the bit shifted out (INC and DEC leave it), N and Z of the new value, V stays; a RAM cell ends with the new value
(R210 to R216, R527). -/
def Obligations.ReadModifyWriteResults : Prop :=
  ∀ (b : Byte) (a : Word) (s : State),
    ∀ q ∈ ([(.asl, fun v => BitVec.ofNat 8 (2 * v.toNat), fun v => decide (128 ≤ v.toNat)),
        (.lsr, fun v => BitVec.ofNat 8 (v.toNat / 2), fun v => decide (v.toNat % 2 = 1)),
        (.rol, fun v => BitVec.ofNat 8 (2 * v.toNat + s.cpu.c.toNat), fun v => decide (128 ≤ v.toNat)),
        (.ror, fun v => BitVec.ofNat 8 (v.toNat / 2 + 128 * s.cpu.c.toNat), fun v => decide (v.toNat % 2 = 1)),
        (.inc, fun v => BitVec.ofNat 8 (v.toNat + 1), fun _ => s.cpu.c),
        (.dec, fun v => BitVec.ofNat 8 (v.toNat + 255), fun _ => s.cpu.c)] : List (RmwOp × (Byte → Byte) × (Byte → Bool))),
      ∀ p ∈ rmwForms q.1 b a, ∃ t m, exec p.1 s = .next t ∧
        (let ea := p.2.effectiveAddress s
         let read := cycleRead ea (p.2.address s).2
         m = read.1 ∧ t = (cycleWrite ea (q.2.1 m) (cycleWrite ea m read.2)).withCpu t.cpu ∧
         (∀ k, busTarget ea = .ram k → m = Memory.read s.ram k ∧ Memory.read t.ram k = q.2.1 m)) ∧
        t.cpu = { s.cpu with c := q.2.2 m, n := (q.2.1 m).getLsbD 7, z := decide (q.2.1 m = 0) } ∧
        t.cpuFault = s.cpuFault ∧
        Frame (p.2.addressReads s ++ [p.2.effectiveAddress s]) [p.2.effectiveAddress s, p.2.effectiveAddress s] s t

/-- ASL, LSR, ROL, ROR on the accumulator (R211 to R214, R522). -/
def Obligations.AccumulatorShiftResults : Prop :=
  ∀ s : State,
    ∀ q ∈ [(Instr.aslAcc, 2 * s.cpu.a.toNat, decide (128 ≤ s.cpu.a.toNat)),
        (.lsrAcc, s.cpu.a.toNat / 2, decide (s.cpu.a.toNat % 2 = 1)),
        (.rolAcc, 2 * s.cpu.a.toNat + s.cpu.c.toNat, decide (128 ≤ s.cpu.a.toNat)),
        (.rorAcc, s.cpu.a.toNat / 2 + 128 * s.cpu.c.toNat, decide (s.cpu.a.toNat % 2 = 1))],
      ∃ t, exec q.1 s = .next t ∧
        t.cpu = { s.cpu with
          a := BitVec.ofNat 8 q.2.1, c := q.2.2, n := decide (128 ≤ q.2.1 % 256), z := decide (q.2.1 % 256 = 0) } ∧
        t.cpuFault = s.cpuFault ∧ Frame [s.cpu.pc] [] s t

/-- CLC, SEC, CLI, SEI, CLD, SED, CLV write one flag with a constant and NOP none: as meanings, and as a step that finds
the opcode at PC, in which PC moves on by one and, where RDY is not asserted, two calls pass (R251 to R257, R260). -/
def Obligations.FlagInstructionsAndNop : Prop :=
  ∀ s : State,
    ∀ q ∈ ([(.clc, 0x18, fun c => { c with c := false }), (.sec, 0x38, fun c => { c with c := true }),
        (.cli, 0x58, fun c => { c with i := false }), (.sei, 0x78, fun c => { c with i := true }),
        (.cld, 0xD8, fun c => { c with d := false }), (.sed, 0xF8, fun c => { c with d := true }),
        (.clv, 0xB8, fun c => { c with v := false }), (.nop, 0xEA, fun c => c)] : List (Instr × Byte × (Cpu → Cpu))),
      (∃ t, exec q.1 s = .next t ∧ t.cpu = q.2.2 s.cpu ∧ t.cpuFault = s.cpuFault ∧ Frame [s.cpu.pc] [] s t) ∧
      (s.stuck = false → s.pipe.tcyc = 0 → s.codeByte s.cpu.pc = some q.2.1 →
        ∃ t, step s = .next t ∧ t.cpu = q.2.2 { s.cpu with pc := s.cpu.pc + 1 } ∧ t.cpuFault = s.cpuFault ∧
          Frame [s.cpu.pc, s.cpu.pc + 1] [] (s.withPipe Latches.idle) t ∧
          (s.tia.wsyncHalt = false → t.cycleCounter = s.cycleCounter + 2 ∧
            (s.tia.hclock < 228 → t.tia.hclock = (s.tia.hclock + 6) % 228)))

/-- TAX, TAY, TXA, TYA, TSX, INX, INY, DEX, DEY write one register with N and Z of it; TXS writes S and no flag
(R170 to R176, R217 to R220). -/
def Obligations.TransfersAndCounts : Prop :=
  ∀ s : State,
    ∀ q ∈ [(Instr.tax, { s.cpu with x := s.cpu.a, n := s.cpu.a.getLsbD 7, z := decide (s.cpu.a = 0) }),
        (.tay, { s.cpu with y := s.cpu.a, n := s.cpu.a.getLsbD 7, z := decide (s.cpu.a = 0) }),
        (.txa, { s.cpu with a := s.cpu.x, n := s.cpu.x.getLsbD 7, z := decide (s.cpu.x = 0) }),
        (.tya, { s.cpu with a := s.cpu.y, n := s.cpu.y.getLsbD 7, z := decide (s.cpu.y = 0) }),
        (.tsx, { s.cpu with x := s.cpu.s, n := s.cpu.s.getLsbD 7, z := decide (s.cpu.s = 0) }),
        (.txs, { s.cpu with s := s.cpu.x }),
        (.inx, { s.cpu with x := s.cpu.x + 1, n := (s.cpu.x + 1).getLsbD 7, z := decide (s.cpu.x = 0xFF) }),
        (.iny, { s.cpu with y := s.cpu.y + 1, n := (s.cpu.y + 1).getLsbD 7, z := decide (s.cpu.y = 0xFF) }),
        (.dex, { s.cpu with x := s.cpu.x - 1, n := (s.cpu.x - 1).getLsbD 7, z := decide (s.cpu.x = 0x01) }),
        (.dey, { s.cpu with y := s.cpu.y - 1, n := (s.cpu.y - 1).getLsbD 7, z := decide (s.cpu.y = 0x01) })],
      ∃ t, exec q.1 s = .next t ∧ t.cpu = q.2 ∧ t.cpuFault = s.cpuFault ∧ Frame [s.cpu.pc] [] s t

/-- The eight branches: PC goes to the next instruction plus the signed displacement where the condition holds and stays
otherwise, and no flag changes. A taken branch makes a dummy read at PC and, where the target lies in another page, a second
one at the target's low byte in PC's page; a branch not taken makes none (R133, R230 to R238, R538). -/
def Obligations.BranchResults : Prop :=
  ∀ (d : Byte) (s : State),
    ∀ q ∈ [(Instr.bpl d, !s.cpu.n), (.bmi d, s.cpu.n), (.bvc d, !s.cpu.v), (.bvs d, s.cpu.v), (.bcc d, !s.cpu.c),
        (.bcs d, s.cpu.c), (.bne d, !s.cpu.z), (.beq d, s.cpu.z)],
      (q.2 = false → exec q.1 s = .next s) ∧
      (q.2 = true →
        let target := BitVec.ofInt 16 ((s.cpu.pc.toNat : Int) + d.toInt)
        let samePage := target.toNat / 256 = s.cpu.pc.toNat / 256
        let uncorrected := wordOf (highByte s.cpu.pc) (lowByte target)
        ∃ t, exec q.1 s = .next t ∧
          (samePage → t = (cycleDummy s.cpu.pc s).withCpu t.cpu) ∧
          (¬ samePage → t = (cycleDummy uncorrected (cycleDummy s.cpu.pc s)).withCpu t.cpu) ∧
          t.cpu = { s.cpu with pc := target } ∧ t.cpuFault = s.cpuFault ∧
          Frame (s.cpu.pc :: if samePage then [] else [uncorrected]) [] s t)

/-- JMP absolute sets PC and nothing else; JMP indirect reads the target's low byte at the pointer and its high byte at the
next address inside the pointer's page; JSR pushes the address of its last byte, high byte first, and sets PC; RTS pulls
an address and sets PC to the one after it. No flag changes (R12, R130, R239 to R241, R539 to R542). -/
def Obligations.JumpsAndSubroutines : Prop :=
  ∀ (a : Word) (s : State),
    exec (.jmpAbs a) s = .next (s.withCpu { s.cpu with pc := a }) ∧
    (let q := wordOf (highByte a) (lowByte a + 1)
     ∃ t lo hi, exec (.jmpInd a) s = .next t ∧ lo = (cycleRead a s).1 ∧ hi = (cycleRead q (cycleRead a s).2).1 ∧
      (∀ k, busTarget a = .ram k → lo = Memory.read s.ram k) ∧
      (∀ k, busTarget q = .ram k → hi = Memory.read s.ram k) ∧
      t.cpu = { s.cpu with pc := wordOf hi lo } ∧ t.cpuFault = s.cpuFault ∧ Frame [a, q] [] s t) ∧
    (∃ t, exec (.jsr a) s = .next t ∧ t.cpu = { s.cpu with s := s.cpu.s - 2, pc := a } ∧ t.cpuFault = s.cpuFault ∧
      (∀ k, busTarget (stackPage s.cpu.s) = .ram k → Memory.read t.ram k = highByte s.cpu.pc) ∧
      (∀ k, busTarget (stackPage (s.cpu.s - 1)) = .ram k → Memory.read t.ram k = lowByte s.cpu.pc) ∧
      Frame [stackPage s.cpu.s, s.cpu.pc] [stackPage s.cpu.s, stackPage (s.cpu.s - 1)] s t) ∧
    (∃ t lo hi, exec .rts s = .next t ∧ wordOf hi lo = rtsReturn s ∧
      (∀ k, busTarget (stackPage (s.cpu.s + 1)) = .ram k → lo = Memory.read s.ram k) ∧
      (∀ k, busTarget (stackPage (s.cpu.s + 2)) = .ram k → hi = Memory.read s.ram k) ∧
      t.cpu = { s.cpu with s := s.cpu.s + 2, pc := wordOf hi lo + 1 } ∧ t.cpuFault = s.cpuFault ∧
      Frame [s.cpu.pc, stackPage s.cpu.s, stackPage (s.cpu.s + 1), stackPage (s.cpu.s + 2), wordOf hi lo] [] s t)

/-- PHA and PHP store A or the status byte at the stack and lower S; PLA and PLP raise S and load A with N and Z, or the
flags and the stored B, from the byte there (R177 to R180, R543). -/
def Obligations.PushAndPullResults : Prop :=
  ∀ s : State,
    (∀ q ∈ [(Instr.pha, s.cpu.a), (.php, statusByte s.cpu)], ∃ t, exec q.1 s = .next t ∧
      t = (cycleWrite (stackPage s.cpu.s) q.2 (cycleDummy s.cpu.pc s)).withCpu { s.cpu with s := s.cpu.s - 1 } ∧
      (∀ k, busTarget (stackPage s.cpu.s) = .ram k → Memory.read t.ram k = q.2) ∧ t.cpuFault = s.cpuFault ∧
      Frame [s.cpu.pc] [stackPage s.cpu.s] s t) ∧
    (let m := (cycleRead (stackPage (s.cpu.s + 1)) (cycleDummy (stackPage s.cpu.s) (cycleDummy s.cpu.pc s))).1
     (∀ k, busTarget (stackPage (s.cpu.s + 1)) = .ram k → m = Memory.read s.ram k) ∧
     ∀ q ∈ [(Instr.pla, { s.cpu with s := s.cpu.s + 1, a := m, n := m.getLsbD 7, z := decide (m = 0) }),
        (.plp, { s.cpu with
          s := s.cpu.s + 1, n := m.getLsbD 7, v := m.getLsbD 6, b := m.getLsbD 4, d := m.getLsbD 3, i := m.getLsbD 2,
          z := m.getLsbD 1, c := m.getLsbD 0 })],
      ∃ t, exec q.1 s = .next t ∧ t.cpu = q.2 ∧ t.cpuFault = s.cpuFault ∧
        Frame [s.cpu.pc, stackPage s.cpu.s, stackPage (s.cpu.s + 1)] [] s t)

/-- BRK takes the trap: the address after its signature byte and the status byte with bits 5 and 4 set go to the stack, I
and the stored B become 1, PC becomes the word at $FFFE, and D, N, V, Z, C, A, X, Y stay (R258, R406, R544). -/
def Obligations.BreakTakesTheTrap : Prop :=
  ∀ s : State, ∃ t lo hi, exec .brk s = .next t ∧
    t.cpu = { s.cpu with s := s.cpu.s - 3, i := true, b := true, pc := wordOf hi lo } ∧ t.cpuFault = s.cpuFault ∧
    (∀ k, busTarget (stackPage s.cpu.s) = .ram k → Memory.read t.ram k = highByte (s.cpu.pc + 1)) ∧
    (∀ k, busTarget (stackPage (s.cpu.s - 1)) = .ram k → Memory.read t.ram k = lowByte (s.cpu.pc + 1)) ∧
    (∀ k, busTarget (stackPage (s.cpu.s - 2)) = .ram k → Memory.read t.ram k = statusByte s.cpu) ∧
    (let s1 := cycleDummy s.cpu.pc s
     ∀ l h, (∀ a ∈ [stackPage s.cpu.s, stackPage (s.cpu.s - 1), stackPage (s.cpu.s - 2)],
        s1.cart.variant.snoops a = false) →
      s1.codeByte 0xFFFE = some l → s1.codeByte 0xFFFF = some h → lo = l ∧ hi = h) ∧
    Frame [s.cpu.pc, 0xFFFE, 0xFFFF] [stackPage s.cpu.s, stackPage (s.cpu.s - 1), stackPage (s.cpu.s - 2)] s t

/-- RTI pulls the status byte, PC low and PC high, and adds no 1 (R259, R408, R545). -/
def Obligations.ReturnFromInterruptResults : Prop :=
  ∀ s : State, ∃ t m lo hi, exec .rti s = .next t ∧
    (∀ k, busTarget (stackPage (s.cpu.s + 1)) = .ram k → m = Memory.read s.ram k) ∧
    (∀ k, busTarget (stackPage (s.cpu.s + 2)) = .ram k → lo = Memory.read s.ram k) ∧
    (∀ k, busTarget (stackPage (s.cpu.s + 3)) = .ram k → hi = Memory.read s.ram k) ∧
    t.cpu = { s.cpu with
      s := s.cpu.s + 3, n := m.getLsbD 7, v := m.getLsbD 6, b := m.getLsbD 4, d := m.getLsbD 3, i := m.getLsbD 2,
      z := m.getLsbD 1, c := m.getLsbD 0, pc := wordOf hi lo } ∧
    t.cpuFault = s.cpuFault ∧
    Frame [s.cpu.pc, stackPage s.cpu.s, stackPage (s.cpu.s + 1), stackPage (s.cpu.s + 2), stackPage (s.cpu.s + 3)] [] s t

/-- An undocumented opcode records its address and byte and changes no register: under `fatal` nothing more happens, under
`skip` one dummy read at PC follows (R150, R153, R401). That the record stands in a next state, and not in a fault of the
model, is the model's reading (notes/assumptions/9.md, DEDUCED; for the two cycles of `skip` 10.md, DEDUCED). The last clause,
that a step of a stuck machine is one call in which only devices move, is the model's reading of R437
(notes/assumptions/18.md, DEDUCED). -/
def Obligations.UndocumentedOpcodes : Prop :=
  (∀ (i : Instr) (s : State), ¬ WellFormed i →
    let record : UnimplementedOpcode := ⟨s.cpu.pc - 1, (encode i).headD 0⟩
    (s.cfg.unimplPolicy = .fatal → exec i s = .next (s.withCpuFault (some record))) ∧
    (s.cfg.unimplPolicy = .skip → ∃ t, exec i s = .next t ∧
      t = cycleDummy s.cpu.pc (s.withCpuFault (some record)) ∧ t.cpu = s.cpu ∧ t.cpuFault = some record ∧
      Frame [s.cpu.pc] [] s t)) ∧
  ∀ s : State, s.stuck = true → step s = .next (endCall (tickDevices s))

/-- What an instruction leaves unchanged: every memory cell and device register that no access of its schedule reaches,
the parameters and the ROM; and a documented instruction leaves the fault record. The CPU registers are in the statements
of the results (R20, R65, R72, R87, R88, R401, R520 to R545). -/
def Obligations.InstructionFrame : Prop :=
  ∀ (i : Instr) (s t : State), exec i s = .next t →
    Frame (i.shape.reads s) (i.shape.writes s) s t ∧ (WellFormed i → t.cpuFault = s.cpuFault)

/-- With the stack in RAM the stack instructions undo each other: RTI after BRK, RTS after JSR, PLA after PHA, PLP after
PHP (R177 to R180, R240, R241, R258, R259, R408). -/
def Obligations.StackRoundTrips : Prop :=
  ∀ (a : Word) (s t u : State),
    (0x82 ≤ s.cpu.s.toNat → exec .brk s = .next t → exec .rti t = .next u →
      u.cpu = { s.cpu with pc := s.cpu.pc + 1, b := true }) ∧
    (0x81 ≤ s.cpu.s.toNat → exec (.jsr a) s = .next t → exec .rts t = .next u →
      u.cpu = { s.cpu with pc := s.cpu.pc + 1 }) ∧
    (0x80 ≤ s.cpu.s.toNat → exec .pha s = .next t → exec .pla t = .next u →
      u.cpu = { s.cpu with n := s.cpu.a.getLsbD 7, z := decide (s.cpu.a = 0) }) ∧
    (0x80 ≤ s.cpu.s.toNat → exec .php s = .next t → exec .plp t = .next u → u.cpu = { s.cpu with b := true })

/-! ### Time -/

/-- A step that no WSYNC stall interrupts takes the cycles of R140's table and R546's penalties, one call each. -/
def Obligations.StepTakesTheTableCycles : Prop :=
  ∀ s : State, s.stuck = false → s.pipe.tcyc = 0 → s.tia.wsyncHalt = false →
    (∀ a ∈ (fetch s).1.shape.earlyWrites (fetch s).2, isWsync a = false) →
    ∃ t, step s = .next t ∧
      t.cycleCounter = s.cycleCounter + tableCycles (fetch s).1 + (fetch s).1.shape.penalty (fetch s).2

/-- One call moves the color clock by three and the counter by one, whatever the CPU does in it; a call that finds RDY
asserted leaves the CPU, the memories and the cartridge alone (R430, R433). -/
def Obligations.OneCallIsThreeTicks : Prop :=
  ∀ s : State,
    (advance s).cycleCounter = s.cycleCounter + 1 ∧
    (s.tia.hclock < 228 → (advance s).tia.hclock = (s.tia.hclock + 3) % 228) ∧
    ((tickDevices s).stalled = true →
      (advance s).cpu = s.cpu ∧ (advance s).pipe = s.pipe ∧ (advance s).cpuFault = s.cpuFault ∧
      (advance s).ram = s.ram ∧ (advance s).cart = s.cart)

/-- A stall that begins at color clock `h` holds the CPU for `(228 - h) / 3 - 1` calls; the call after them ends its ticks
at color clock 0 with RDY released, and is the one in which the CPU has its next cycle (R432). -/
def Obligations.WsyncStallLength : Prop :=
  ∀ s : State, s.tia.wsyncHalt = true → s.tia.hclock < 228 → s.tia.hclock % 3 = 0 →
    let n := (228 - s.tia.hclock) / 3 - 1
    (∀ m < n, (tickDevices (advance^[m] s)).stalled = true) ∧
    (tickDevices (advance^[n] s)).stalled = false ∧ (tickDevices (advance^[n] s)).tia.hclock = 0 ∧
    (advance^[n] s).cpu = s.cpu ∧ (advance^[n] s).cycleCounter = s.cycleCounter + n ∧
    s.ready = tickDevices (advance^[n] s)

/-! ### The Bus and the cartridge -/

/-- The decode of R62 with the register or cell it selects: address bits 12, 7 and 9 alone choose the target. -/
def Obligations.BusDecode : Prop :=
  ∀ (a : Word) (v : Byte) (s : State),
    (a.getLsbD 12 = true → busTarget a = .cart (a.toNat % 4096)) ∧
    (a.getLsbD 12 = false → a.getLsbD 7 = false → busTarget a = .tia ∧
      (memWrite a v s).tia = s.tia.write s.cfg (a.toNat % 64) v ∧
      ((memRead a s).1.getLsbD 7, (memRead a s).1.getLsbD 6) = s.tia.read s.input (a.toNat % 16)) ∧
    (a.getLsbD 12 = false → a.getLsbD 7 = true → a.getLsbD 9 = false → busTarget a = .ram (a.toNat % 128) ∧
      (memRead a s).1 = Memory.read s.ram (a.toNat % 128) ∧
      (memWrite a v s).ram = Memory.write s.ram (a.toNat % 128) v) ∧
    (a.getLsbD 12 = false → a.getLsbD 7 = true → a.getLsbD 9 = true → busTarget a = .riot ∧
      memRead a s = ((s.riot.read s.input a).1,
        snoopBus a (s.riot.read s.input a).1 (s.withRiot (s.riot.read s.input a).2)) ∧
      (memWrite a v s).riot = s.riot.write a v)

/-- Address bits 15, 14 and 13 are ignored, side effects included (R61). -/
def Obligations.AddressMirrors : Prop :=
  ∀ (a : Word) (v : Byte) (s : State),
    memRead a s = memRead (a &&& 0x1FFF) s ∧ memWrite a v s = memWrite (a &&& 0x1FFF) v s

/-- A RAM read returns the last byte written to that cell, under any address that selects it, and changes no cell; a
write changes that cell only (R65, R80, R83). -/
def Obligations.RamReadsTheLastWrite : Prop :=
  ∀ (a b : Word) (v : Byte) (s : State) (k : Nat), busTarget a = .ram k →
    k < 128 ∧ (cycleRead a s).1 = Memory.read s.ram k ∧ (cycleRead a s).2.ram = s.ram ∧
    Memory.read (cycleWrite a v s).ram k = v ∧
    (∀ j, j ≠ k → Memory.read (cycleWrite a v s).ram j = Memory.read s.ram j) ∧
    (busTarget b = .ram k → (cycleRead b (cycleWrite a v s)).1 = v)

/-- In the window, after the switch of a hot offset: a ROM cell reads its byte and stores nothing, a RAM read port reads
its cell and stores nothing, a RAM write port stores, and a read there leaves every other cell (R86 to R88). And which cell
an offset of the window shows, in every scheme: the RAM ports and the bank of the generic scheme, the whole image of
`single_bank`, the bank of `fe`, the four segments of `pb`, the segments and RAM pages of `mnet` (R79, R90, R95, R96, R98). The
numbering of the RAM cells of `mnet` is the model's (notes/assumptions/15.md). -/
def Obligations.CartridgeCells : Prop :=
  (∀ (a : Word) (o : Nat) (v : Byte) (s : State), busTarget a = .cart o →
    (∀ i, (s.cart.switched o).locate o = .rom i →
      (memRead a s).1 = Memory.read s.cart.rom i ∧ (memRead a s).2.cart.ram = s.cart.ram ∧
      (memWrite a v s).cart.rom = s.cart.rom ∧ (memWrite a v s).cart.ram = s.cart.ram ∧
      (memWrite a v s).cart.variant = (s.cart.variant.switch o).snoop (busAddress a) v) ∧
    (∀ i, (s.cart.switched o).locate o = .readPort i →
      (memRead a s).1 = Memory.read s.cart.ram i ∧ (memRead a s).2.cart.ram = s.cart.ram ∧
      (memWrite a v s).cart.ram = s.cart.ram) ∧
    (∀ i, (s.cart.switched o).locate o = .writePort i →
      Memory.read (memWrite a v s).cart.ram i = v ∧
      (∀ j, j ≠ i → Memory.read (memWrite a v s).cart.ram j = Memory.read s.cart.ram j) ∧
      ∀ j, j ≠ i → Memory.read (memRead a s).2.cart.ram j = Memory.read s.cart.ram j)) ∧
  ∀ (c : Cart) (o : Nat), o < 4096 →
    (c.variant = .single → c.locate o = .rom (o % c.romSize)) ∧
    (∀ p bank, c.variant = .hot p bank →
      (o < p.ramSize → c.locate o = .writePort o) ∧
      (p.ramSize ≤ o → o < 2 * p.ramSize → c.locate o = .readPort (o - p.ramSize)) ∧
      (2 * p.ramSize ≤ o → c.locate o = .rom (bank * 4096 + o))) ∧
    (∀ bank1 armed, c.variant = .fe bank1 armed → c.locate o = .rom ((if bank1 then 1 else 0) * 4096 + o)) ∧
    (∀ s0 s1 s2, c.variant = .pb s0 s1 s2 →
      c.locate o = .rom ([s0, s1, s2, 7].getD (o / 1024) 7 * 1024 + o % 1024)) ∧
    ∀ lo rp, c.variant = .mnet lo rp →
      (o < 0x800 → lo < 7 → c.locate o = .rom (lo * 2048 + o)) ∧
      (o < 0x400 → lo = 7 → c.locate o = .writePort o) ∧
      (0x400 ≤ o → o < 0x800 → lo = 7 → c.locate o = .readPort (o - 0x400)) ∧
      (0x800 ≤ o → o < 0x900 → c.locate o = .writePort (1024 + rp * 256 + (o - 0x800))) ∧
      (0x900 ≤ o → o < 0xA00 → c.locate o = .readPort (1024 + rp * 256 + (o - 0x900))) ∧
      (0xA00 ≤ o → c.locate o = .rom (7 * 2048 + (o - 0x800)))

/-- A hot address selects its bank on a read and on a write alike, the read already returning the new bank's byte, and
later reads of the window come from that bank, in the generic scheme, in `pb` and in `mnet`; an address that is not hot
changes no bank, `fe` apart (R79, R86, R96, R98, R100). The numbering of the RAM cells of `mnet` is the model's
(notes/assumptions/15.md). -/
def Obligations.HotAddressesSwitchBanks : Prop :=
  ∀ (a : Word) (o : Nat) (v : Byte) (s : State), busTarget a = .cart o →
    (∀ p bank, s.cart.variant = .hot p bank → p.hLo ≤ o → o ≤ p.hHi →
      (memRead a s).2.cart.variant = .hot p (o - p.hLo) ∧ (memWrite a v s).cart.variant = .hot p (o - p.hLo) ∧
      (2 * p.ramSize ≤ o → (memRead a s).1 = Memory.read s.cart.rom ((o - p.hLo) * 4096 + o)) ∧
      ∀ t ∈ [(memRead a s).2, memWrite a v s], ∀ a' o', busTarget a' = .cart o' → 2 * p.ramSize ≤ o' →
        s.hotAddress a' = false → (memRead a' t).1 = Memory.read s.cart.rom ((o - p.hLo) * 4096 + o')) ∧
    (∀ s0 s1 s2, s.cart.variant = .pb s0 s1 s2 →
      (∀ k < 8,
        (o = 0xFE0 + k → (memRead a s).2.cart.variant = .pb k s1 s2 ∧ (memWrite a v s).cart.variant = .pb k s1 s2) ∧
        (o = 0xFE8 + k → (memRead a s).2.cart.variant = .pb s0 k s2 ∧ (memWrite a v s).cart.variant = .pb s0 k s2) ∧
        (o = 0xFF0 + k → (memRead a s).2.cart.variant = .pb s0 s1 k ∧ (memWrite a v s).cart.variant = .pb s0 s1 k)) ∧
      ∀ t ∈ [(memRead a s).2, memWrite a v s], ∃ r0 r1 r2, t.cart.variant = .pb r0 r1 r2 ∧
        let shown := fun x : Nat => Memory.read s.cart.rom ([r0, r1, r2, 7].getD (x / 1024) 7 * 1024 + x % 1024)
        (memRead a s).1 = shown o ∧
        ∀ a' o', busTarget a' = .cart o' → s.hotAddress a' = false → (memRead a' t).1 = shown o') ∧
    (∀ lo rp, s.cart.variant = .mnet lo rp →
      (∀ k < 8,
        (o = 0xFE0 + k → (memRead a s).2.cart.variant = .mnet k rp ∧ (memWrite a v s).cart.variant = .mnet k rp) ∧
        (k < 4 → o = 0xFE8 + k →
          (memRead a s).2.cart.variant = .mnet lo k ∧ (memWrite a v s).cart.variant = .mnet lo k)) ∧
      ∀ t ∈ [(memRead a s).2, memWrite a v s], ∃ lo' rp', t.cart.variant = .mnet lo' rp' ∧
        let shows := fun (x : Nat) (ram : Memory) (y : Byte) =>
          (x < 0x800 → lo' < 7 → y = Memory.read s.cart.rom (lo' * 2048 + x)) ∧
          (0x400 ≤ x → x < 0x800 → lo' = 7 → y = Memory.read ram (x - 0x400)) ∧
          (0x900 ≤ x → x < 0xA00 → y = Memory.read ram (1024 + rp' * 256 + (x - 0x900))) ∧
          (0xA00 ≤ x → y = Memory.read s.cart.rom (7 * 2048 + (x - 0x800)))
        shows o s.cart.ram (memRead a s).1 ∧
        ∀ a' o', busTarget a' = .cart o' → s.hotAddress a' = false → shows o' t.cart.ram (memRead a' t).1) ∧
    ∀ a', s.hotAddress a' = false → (∀ bank1 armed, s.cart.variant ≠ .fe bank1 armed) →
      (memRead a' s).2.cart.variant = s.cart.variant ∧ (memWrite a' v s).cart.variant = s.cart.variant

/-- Scheme `fe`: after every access anywhere a pending switch takes bit 5 of the byte moved, and an access to $01FE makes
the next one pending; the window shows the selected 4096 bytes; images of 8192 bytes only; bank 0 at power-on (R95). -/
def Obligations.FeSchemeSnoops : Prop :=
  (∀ (a : Word) (v : Byte) (s : State) (bank1 armed : Bool), s.cart.variant = .fe bank1 armed →
    (memRead a s).2.cart.variant =
      .fe (if armed then !(memRead a s).1.getLsbD 5 else bank1) (decide (a &&& 0x1FFF = 0x01FE)) ∧
    (memWrite a v s).cart.variant =
      .fe (if armed then !v.getLsbD 5 else bank1) (decide (a &&& 0x1FFF = 0x01FE)) ∧
    (memWrite a v s).cart.rom = s.cart.rom ∧ (memWrite a v s).cart.ram = s.cart.ram ∧
    ∀ o, busTarget a = .cart o → (memRead a s).1 = Memory.read s.cart.rom ((if bank1 then 1 else 0) * 4096 + o)) ∧
  ∀ (e : HotScheme) (p : PowerOn) (n : Nat),
    resolveVariant e p .fe n = if n = 8192 then some (.fe false false) else none

/-! ### The RIOT -/

/-- The timer: one tick from every state, the load, and every tick after a load: the count at each tick, the underflow and
the fast mode, in which each wrap sets the latch again (R450, R454). -/
def Obligations.TimerLoadAndCount : Prop :=
  (∀ r : Riot,
    let size := match r.shift with | .by1 => 1 | .by8 => 8 | .by64 => 64 | .by1024 => 1024
    (r.fast = true →
      r.tick = { r with
        timer := BitVec.ofNat 8 (r.timer.toNat + 255), underflow := if r.timer = 0 then true else r.underflow }) ∧
    (r.fast = false → r.prescale = 0 → r.timer = 0 →
      r.tick = { r with timer := 0xFF, underflow := true, fast := true, prescale := size - 1 }) ∧
    (r.fast = false → r.prescale = 0 → r.timer ≠ 0 →
      r.tick = { r with timer := BitVec.ofNat 8 (r.timer.toNat - 1), prescale := size - 1 }) ∧
    (r.fast = false → 0 < r.prescale → r.tick = { r with prescale := r.prescale - 1 })) ∧
  (∀ (a : Word) (v : Byte) (s : State), busTarget a = .riot → a.getLsbD 2 = true → a.getLsbD 4 = true →
    ∀ q ∈ [(0, Interval.by1), (1, .by8), (2, .by64), (3, .by1024)], a.toNat % 4 = q.1 →
      (memWrite a v s).riot =
        { s.riot with timer := v, shift := q.2, prescale := 0, underflow := false, fast := false }) ∧
  ∀ (r : Riot) (i : Interval) (v : Byte) (n : Nat),
    let q := Riot.ticks n (r.loadTimer i v)
    let size := match i with | .by1 => 1 | .by8 => 8 | .by64 => 64 | .by1024 => 1024
    q = Riot.tick^[n] { r with timer := v, shift := i, prescale := 0, underflow := false, fast := false } ∧
    (n = 0 → q.timer = v) ∧
    (∀ j, 1 ≤ j → j ≤ v.toNat → 1 + (j - 1) * size ≤ n → n ≤ j * size →
      q.timer = BitVec.ofNat 8 (v.toNat - j) ∧ q.underflow = false ∧ q.fast = false) ∧
    (∀ k, n = 1 + v.toNat * size + k →
      q.timer = BitVec.ofNat 8 (255 - k % 256) ∧ q.underflow = true ∧ q.fast = true)

/-- The RIOT registers. An INTIM read returns the timer as the call's tick left it and clears the underflow latch, that
tick's included, and nothing else; an INSTAT read returns the latch in bit 7 and has no effect. A read of SWCHA or SWCHB
takes each bit from the output latch or the pin by its direction bit, the direction registers read back, no port read has
an effect, and a port write stores all eight bits (R452, R453, R455, R456). -/
def Obligations.RiotRegisters : Prop :=
  ∀ (a : Word) (v : Byte) (s : State), busTarget a = .riot →
    (a.getLsbD 2 = true →
      (a.getLsbD 0 = false →
        (memRead a s).1 = s.riot.timer ∧ (memRead a s).2.riot = { s.riot with underflow := false } ∧
        (s.tia.wsyncHalt = false →
          (cycleRead a s).1 = (Riot.ticks s.cfg.riotRate.ticks s.riot).timer ∧
          (cycleRead a s).2.riot = { Riot.ticks s.cfg.riotRate.ticks s.riot with underflow := false })) ∧
      (a.getLsbD 0 = true →
        (memRead a s).1 = (if s.riot.underflow then 0x80 else 0x00) ∧ (memRead a s).2.riot = s.riot)) ∧
    (a.getLsbD 2 = false →
      (memRead a s).2.riot = s.riot ∧
      (a.toNat % 4 = 0 → (∀ k < 8, (memRead a s).1.getLsbD k =
          if s.riot.ddra.getLsbD k then s.riot.ora.getLsbD k else s.input.pa.getLsbD k) ∧
        (memWrite a v s).riot = { s.riot with ora := v }) ∧
      (a.toNat % 4 = 1 → (memRead a s).1 = s.riot.ddra ∧ (memWrite a v s).riot = { s.riot with ddra := v }) ∧
      (a.toNat % 4 = 2 → (∀ k < 8, (memRead a s).1.getLsbD k =
          if s.riot.ddrb.getLsbD k then s.riot.orb.getLsbD k else s.input.pb.getLsbD k) ∧
        (memWrite a v s).riot = { s.riot with orb := v }) ∧
      (a.toNat % 4 = 3 → (memRead a s).1 = s.riot.ddrb ∧ (memWrite a v s).riot = { s.riot with ddrb := v }))

/-! ### The TIA -/

/-- The line wrap: the color clock returns to 0, RDY is released, the sync latches are sampled, and the end of vertical
sync starts a new frame (R467). -/
def Obligations.LineWrap : Prop :=
  ∀ (div : Nat) (t : Tia), t.hclock = 227 →
    (t.tick div).hclock = 0 ∧ (t.tick div).wsyncHalt = false ∧ (t.tick div).vsyncOn = t.regs.vsync.getLsbD 1 ∧
    (t.tick div).vblankOn = t.regs.vblank.getLsbD 1 ∧
    (if t.vsyncOn = true ∧ t.regs.vsync.getLsbD 1 = false then
      (t.tick div).scanline = 0 ∧ (t.tick div).frame = t.frame + 1
    else (t.tick div).scanline = t.scanline + 1 ∧ (t.tick div).frame = t.frame)

/-- A write to a graphics register only joins the buffer; at the `n`-th tick after it, `n` its delay, it is applied,
oldest first, with the effects of R461, and until then it waits (R460, R461, R475). -/
def Obligations.DelayedWrites : Prop :=
  (∀ (a : Word) (v : Byte) (s : State), busTarget a = .tia →
    ∀ q ∈ [(0x0D, DelayedReg.pf0), (0x0E, .pf1), (0x0F, .pf2), (0x1B, .grp0), (0x1C, .grp1), (0x1D, .enam0),
        (0x1E, .enam1), (0x1F, .enabl)], a.toNat % 64 = q.1 →
      (memWrite a v s).tia =
        { s.tia with pending := s.tia.pending ++ [⟨q.2, v, s.cfg.futurePixels.of q.2⟩] }) ∧
  (∀ (div : Nat) (t : Tia) (k : Nat), (∀ w ∈ t.pending, 1 ≤ w.remaining) →
    ((Tia.tick div)^[k] t).pending =
      (t.pending.filter fun w => decide (k < w.remaining)).map (fun w => { w with remaining := w.remaining - k }) ∧
    ((Tia.tick div)^[k + 1] t).gfx =
      (t.pending.filter fun w => decide (w.remaining = k + 1)).foldl Graphics.apply ((Tia.tick div)^[k] t).gfx) ∧
  ∀ (g : Graphics) (v : Byte) (n : Nat),
    g.apply ⟨.pf0, v, n⟩ = { g with pf0 := v &&& 0xF0 } ∧ g.apply ⟨.pf1, v, n⟩ = { g with pf1 := v } ∧
    g.apply ⟨.pf2, v, n⟩ = { g with pf2 := v } ∧
    g.apply ⟨.grp0, v, n⟩ = { g with grp0New := v, grp1Old := g.grp1New } ∧
    g.apply ⟨.grp1, v, n⟩ = { g with grp1New := v, grp0Old := g.grp0New, enablOld := g.enablNew } ∧
    g.apply ⟨.enam0, v, n⟩ = { g with enam0 := v.getLsbD 1 } ∧ g.apply ⟨.enam1, v, n⟩ = { g with enam1 := v.getLsbD 1 } ∧
    g.apply ⟨.enabl, v, n⟩ = { g with enablNew := v.getLsbD 1 }

/-- The other TIA registers keep the listed bits at once and do nothing more; RSYNC and $2D to $3F do nothing (R466). -/
def Obligations.RegisterWrites : Prop :=
  ∀ (a : Word) (v : Byte) (s : State), busTarget a = .tia →
    (∀ q ∈ ([(0x00, fun r => { r with vsync := v &&& 0x02 }), (0x01, fun r => { r with vblank := v &&& 0xC2 }),
        (0x04, fun r => { r with nusiz0 := v &&& 0x37 }), (0x05, fun r => { r with nusiz1 := v &&& 0x37 }),
        (0x06, fun r => { r with colup0 := v &&& 0xFE }), (0x07, fun r => { r with colup1 := v &&& 0xFE }),
        (0x08, fun r => { r with colupf := v &&& 0xFE }), (0x09, fun r => { r with colubk := v &&& 0xFE }),
        (0x0A, fun r => { r with ctrlpf := v &&& 0x37 }), (0x0B, fun r => { r with refp0 := v &&& 0x08 }),
        (0x0C, fun r => { r with refp1 := v &&& 0x08 }), (0x15, fun r => { r with audc0 := v &&& 0x0F }),
        (0x16, fun r => { r with audc1 := v &&& 0x0F }), (0x17, fun r => { r with audf0 := v &&& 0x1F }),
        (0x18, fun r => { r with audf1 := v &&& 0x1F }), (0x19, fun r => { r with audv0 := v &&& 0x0F }),
        (0x1A, fun r => { r with audv1 := v &&& 0x0F }), (0x20, fun r => { r with hmp0 := v &&& 0xF0 }),
        (0x21, fun r => { r with hmp1 := v &&& 0xF0 }), (0x22, fun r => { r with hmm0 := v &&& 0xF0 }),
        (0x23, fun r => { r with hmm1 := v &&& 0xF0 }), (0x24, fun r => { r with hmbl := v &&& 0xF0 }),
        (0x25, fun r => { r with vdelp0 := v &&& 0x01 }), (0x26, fun r => { r with vdelp1 := v &&& 0x01 }),
        (0x27, fun r => { r with vdelbl := v &&& 0x01 }), (0x28, fun r => { r with resmp0 := v &&& 0x02 }),
        (0x29, fun r => { r with resmp1 := v &&& 0x02 })] : List (Nat × (TiaRegs → TiaRegs))),
      a.toNat % 64 = q.1 → (memWrite a v s).tia = { s.tia with regs := q.2 s.tia.regs }) ∧
    (a.toNat % 64 = 0x03 ∨ 0x2D ≤ a.toNat % 64 → (memWrite a v s).tia = s.tia)

/-- The strobes: WSYNC sets the halt flag; RESxx latch the beam position with their offsets; HMOVE moves each object by
its signed motion, positive to the left; HMCLR clears the motion registers; CXCLR clears the latches (R462 to R465). -/
def Obligations.StrobesAndMotion : Prop :=
  ∀ (a : Word) (v : Byte) (s : State), busTarget a = .tia →
    let x0 : Int := if s.tia.hclock < 68 then -2 else (s.tia.hclock : Int) - 68
    let latch := fun offset : Nat => ((x0 + (offset : Int)) % 160).toNat
    let motion := fun hm : Byte => if hm.toNat / 16 < 8 then (hm.toNat / 16 : Int) else (hm.toNat / 16 : Int) - 16
    let u := (memWrite a v s).tia
    (a.toNat % 64 = 0x02 → u = { s.tia with wsyncHalt := true }) ∧
    (a.toNat % 64 = 0x10 → u = { s.tia with pos := { s.tia.pos with p0 := latch s.cfg.playerResetOffset } }) ∧
    (a.toNat % 64 = 0x11 → u = { s.tia with pos := { s.tia.pos with p1 := latch s.cfg.playerResetOffset } }) ∧
    (a.toNat % 64 = 0x12 → u = { s.tia with pos := { s.tia.pos with m0 := latch s.cfg.missileResetOffset } }) ∧
    (a.toNat % 64 = 0x13 → u = { s.tia with pos := { s.tia.pos with m1 := latch s.cfg.missileResetOffset } }) ∧
    (a.toNat % 64 = 0x14 → u = { s.tia with pos := { s.tia.pos with bl := latch s.cfg.ballResetOffset } }) ∧
    (a.toNat % 64 = 0x2A → u = { s.tia with pos := u.pos } ∧
      (u.pos.p0 : Int) = ((s.tia.pos.p0 : Int) - motion s.tia.regs.hmp0) % 160 ∧
      (u.pos.p1 : Int) = ((s.tia.pos.p1 : Int) - motion s.tia.regs.hmp1) % 160 ∧
      (u.pos.m0 : Int) = ((s.tia.pos.m0 : Int) - motion s.tia.regs.hmm0) % 160 ∧
      (u.pos.m1 : Int) = ((s.tia.pos.m1 : Int) - motion s.tia.regs.hmm1) % 160 ∧
      (u.pos.bl : Int) = ((s.tia.pos.bl : Int) - motion s.tia.regs.hmbl) % 160) ∧
    (a.toNat % 64 = 0x2B →
      u = { s.tia with regs := { s.tia.regs with hmp0 := 0, hmp1 := 0, hmm0 := 0, hmm1 := 0, hmbl := 0 } }) ∧
    (a.toNat % 64 = 0x2C → u = { s.tia with cx := u.cx } ∧ u.cx = Collisions.clear)

/-- Collision detection in one tick: on a visible pixel outside vertical blank each of the 15 latches is set where both
its objects are on at the pixel, and no latch is cleared (R472). -/
def Obligations.CollisionDetection : Prop :=
  ∀ (div : Nat) (t : Tia),
    let o := t.beforeRender.objectsAt (t.hclock - 68)
    let on := decide (68 ≤ t.hclock) && !t.vblankOn
    let u := (t.tick div).cx
    u.m0p1 = (t.cx.m0p1 || (on && o.m0 && o.p1)) ∧ u.m0p0 = (t.cx.m0p0 || (on && o.m0 && o.p0)) ∧
    u.m1p0 = (t.cx.m1p0 || (on && o.m1 && o.p0)) ∧ u.m1p1 = (t.cx.m1p1 || (on && o.m1 && o.p1)) ∧
    u.p0pf = (t.cx.p0pf || (on && o.p0 && o.pf)) ∧ u.p0bl = (t.cx.p0bl || (on && o.p0 && o.bl)) ∧
    u.p1pf = (t.cx.p1pf || (on && o.p1 && o.pf)) ∧ u.p1bl = (t.cx.p1bl || (on && o.p1 && o.bl)) ∧
    u.m0pf = (t.cx.m0pf || (on && o.m0 && o.pf)) ∧ u.m0bl = (t.cx.m0bl || (on && o.m0 && o.bl)) ∧
    u.m1pf = (t.cx.m1pf || (on && o.m1 && o.pf)) ∧ u.m1bl = (t.cx.m1bl || (on && o.m1 && o.bl)) ∧
    u.blpf = (t.cx.blpf || (on && o.bl && o.pf)) ∧ u.p0p1 = (t.cx.p0p1 || (on && o.p0 && o.p1)) ∧
    u.m0m1 = (t.cx.m0m1 || (on && o.m0 && o.m1))

/-- No instruction clears a collision latch but through a write of CXCLR (R41, R463, R477). -/
def Obligations.CollisionLatchesOnlyRise : Prop :=
  ∀ (i : Instr) (s t : State), exec i s = .next t →
    (∀ a ∈ i.shape.writes s, busTarget a = .tia → a.toNat % 64 ≠ 0x2C) → s.tia.cx.Le t.tia.cx

/-- Which pixels each object covers: the playfield's 20 bits four pixels each, repeated or mirrored; a player's copies bit
by bit from its position, wrapping at the right edge; missiles and ball; and which pattern, enable, size and position
register each of the six objects takes (R468, R469, R471). -/
def Obligations.ObjectPixels : Prop :=
  (∀ (g : Graphics) (ctrlpf : Byte) (x : Nat), x < 160 →
    let bits := [g.pf0.getLsbD 4, g.pf0.getLsbD 5, g.pf0.getLsbD 6, g.pf0.getLsbD 7,
      g.pf1.getLsbD 7, g.pf1.getLsbD 6, g.pf1.getLsbD 5, g.pf1.getLsbD 4,
      g.pf1.getLsbD 3, g.pf1.getLsbD 2, g.pf1.getLsbD 1, g.pf1.getLsbD 0,
      g.pf2.getLsbD 0, g.pf2.getLsbD 1, g.pf2.getLsbD 2, g.pf2.getLsbD 3,
      g.pf2.getLsbD 4, g.pf2.getLsbD 5, g.pf2.getLsbD 6, g.pf2.getLsbD 7]
    playfieldBit g ctrlpf x =
      bits.getD (if x < 80 then x / 4 else if ctrlpf.getLsbD 0 then (159 - x) / 4 else (x - 80) / 4) false) ∧
  (∀ (nusiz : Byte) (pos x : Nat), pos < 160 → x < 160 →
    let n := nusiz.toNat % 8
    let offsets := [[0], [0, 16], [0, 32], [0, 16, 32], [0, 64], [0], [0, 32, 64], [0]].getD n []
    let w := [1, 1, 1, 1, 1, 2, 1, 4].getD n 1
    (∀ (pattern : Byte) (reflect : Bool), playerBit pattern reflect nusiz pos x = true ↔
      ∃ c ∈ offsets, ∃ k < 8, ∃ e < w,
        x = (pos + c + k * w + e) % 160 ∧ pattern.getLsbD (if reflect then k else 7 - k) = true) ∧
    (∀ enabled : Bool, missileBit enabled nusiz pos x = true ↔
      enabled = true ∧ ∃ c ∈ offsets, ∃ e < 2 ^ (nusiz.toNat / 16 % 4), x = (pos + c + e) % 160) ∧
    (∀ enabled : Bool, ballBit enabled nusiz pos x = true ↔
      enabled = true ∧ ∃ e < 2 ^ (nusiz.toNat / 16 % 4), x = (pos + e) % 160)) ∧
  ∀ (t : Tia) (x : Nat),
    let g := t.gfx
    let r := t.regs
    let o := t.objectsAt x
    o.pf = playfieldBit g r.ctrlpf x ∧
    o.p0 = playerBit (if r.vdelp0.getLsbD 0 then g.grp0Old else g.grp0New) (r.refp0.getLsbD 3) r.nusiz0 t.pos.p0 x ∧
    o.p1 = playerBit (if r.vdelp1.getLsbD 0 then g.grp1Old else g.grp1New) (r.refp1.getLsbD 3) r.nusiz1 t.pos.p1 x ∧
    o.m0 = missileBit (if r.resmp0.getLsbD 1 then false else g.enam0) r.nusiz0 t.pos.m0 x ∧
    o.m1 = missileBit (if r.resmp1.getLsbD 1 then false else g.enam1) r.nusiz1 t.pos.m1 x ∧
    o.bl = ballBit (if r.vdelbl.getLsbD 0 then g.enablOld else g.enablNew) r.ctrlpf t.pos.bl x

/-- The 228 ticks of a line send 160 records to the frame sink, one for each pixel from left to right, all of that line
and frame (R431, R470, R474). -/
def Obligations.LineOfPixels : Prop :=
  ∀ s : State, s.tia.hclock = 0 →
    ∃ ps, (tickTia^[228] s).video = ps ++ s.video ∧ ps.map (fun p => p.x) = (List.range 160).reverse ∧
      (∀ p ∈ ps, p.frame = s.tia.frame ∧ p.scanline = s.tia.scanline) ∧ (tickTia^[228] s).tia.hclock = 0

/-- The record a tick sends to the frame sink: that of the TIA after the tick's delayed writes and missile lock, none in
horizontal blank. Its colour: black in vertical blank, else by the priority that CTRLPF selects, the playfield in the
players' colours in score mode (R459, R470, R473). That the sink is a list, newest first, is the model's
(notes/assumptions/12.md). -/
def Obligations.PixelColour : Prop :=
  (∀ s : State, (tickTia s).video = s.tia.beforeRender.pixelOut ++ s.video ∧
    s.tia.beforeRender = { s.tia with
      gfx := (tickTia s).tia.gfx, pos := (tickTia s).tia.pos, pending := (tickTia s).tia.pending }) ∧
  ∀ t : Tia,
    (t.hclock < 68 → t.pixelOut = []) ∧
    (68 ≤ t.hclock →
      let x := t.hclock - 68
      let o := t.objectsAt x
      ∃ colour, t.pixelOut = [⟨t.frame, t.scanline, x, colour⟩] ∧
        (t.vblankOn = true → colour = 0x00) ∧
        (t.vblankOn = false → t.regs.ctrlpf.getLsbD 2 = false →
          ((o.p0 || o.m0) = true → colour = t.regs.colup0) ∧
          ((o.p0 || o.m0) = false → (o.p1 || o.m1) = true → colour = t.regs.colup1) ∧
          ((o.p0 || o.m0) = false → (o.p1 || o.m1) = false → o.bl = true → colour = t.regs.colupf) ∧
          ((o.p0 || o.m0) = false → (o.p1 || o.m1) = false → o.bl = false → o.pf = true →
            colour = if t.regs.ctrlpf.getLsbD 1 then (if x < 80 then t.regs.colup0 else t.regs.colup1)
              else t.regs.colupf) ∧
          ((o.p0 || o.m0) = false → (o.p1 || o.m1) = false → o.bl = false → o.pf = false → colour = t.regs.colubk)) ∧
        (t.vblankOn = false → t.regs.ctrlpf.getLsbD 2 = true →
          ((o.pf || o.bl) = true → colour = t.regs.colupf) ∧
          ((o.pf || o.bl) = false → (o.p0 || o.m0) = true → colour = t.regs.colup0) ∧
          ((o.pf || o.bl) = false → (o.p0 || o.m0) = false → (o.p1 || o.m1) = true → colour = t.regs.colup1) ∧
          ((o.pf || o.bl) = false → (o.p0 || o.m0) = false → (o.p1 || o.m1) = false → colour = t.regs.colubk)))

/-- The missile lock: each tick puts a locked missile at the centre of its player's first copy and hides it, and leaves
the other positions (R476). -/
def Obligations.MissileLock : Prop :=
  ∀ (div : Nat) (t : Tia),
    let centre := fun nusiz : Byte => if nusiz.toNat % 8 = 5 then 6 else if nusiz.toNat % 8 = 7 then 10 else 3
    (t.tick div).pos.m0 =
      (if t.regs.resmp0.getLsbD 1 then (t.pos.p0 + centre t.regs.nusiz0) % 160 else t.pos.m0) ∧
    (t.tick div).pos.m1 =
      (if t.regs.resmp1.getLsbD 1 then (t.pos.p1 + centre t.regs.nusiz1) % 160 else t.pos.m1) ∧
    (t.tick div).pos.p0 = t.pos.p0 ∧ (t.tick div).pos.p1 = t.pos.p1 ∧ (t.tick div).pos.bl = t.pos.bl ∧
    ∀ x, (t.regs.resmp0.getLsbD 1 = true → (t.objectsAt x).m0 = false) ∧
      (t.regs.resmp1.getLsbD 1 = true → (t.objectsAt x).m1 = false)

/-- The audio step and its record, at every tick in which the prescaler is full and at no other; so a channel toggles once
in every `AUDF + 1` audio steps of `AUDIO_CLOCK_DIV` ticks each (R482, R486). -/
def Obligations.AudioStepsAndPeriod : Prop :=
  (∀ s : State,
    let au := s.tia.audio
    let r := s.tia.regs
    let u := tickTia s
    (au.pre + 1 ≠ s.cfg.audioClockDiv → u.tia.audio = { au with pre := au.pre + 1 } ∧ u.audioOut = s.audioOut) ∧
    (au.pre + 1 = s.cfg.audioClockDiv →
      u.tia.audio =
        { pre := 0
          div0 := if au.div0 = 0 then r.audf0.toNat else au.div0 - 1
          div1 := if au.div1 = 0 then r.audf1.toNat else au.div1 - 1
          out0 := if au.div0 = 0 then !au.out0 else au.out0
          out1 := if au.div1 = 0 then !au.out1 else au.out1 } ∧
      u.audioOut =
        ⟨if u.tia.audio.out0 then r.audv0 else 0, if u.tia.audio.out1 then r.audv1 else 0⟩ :: s.audioOut)) ∧
  ∀ (div : Nat) (t : Tia), 1 ≤ div → t.audio.pre = 0 →
    (t.audio.div0 = t.regs.audf0.toNat →
      let u := (Tia.tick div)^[div * (t.regs.audf0.toNat + 1)] t
      u.audio.out0 = !t.audio.out0 ∧ u.audio.div0 = t.audio.div0 ∧ u.audio.pre = 0) ∧
    (t.audio.div1 = t.regs.audf1.toNat →
      let u := (Tia.tick div)^[div * (t.regs.audf1.toNat + 1)] t
      u.audio.out1 = !t.audio.out1 ∧ u.audio.div1 = t.audio.div1 ∧ u.audio.pre = 0)

/-- The TIA read registers: collision latches and input ports in bits 7 and 6, the parameter's bits below, no side effect;
and the input latches at the start of a call (R40, R49, R74, R480). -/
def Obligations.TiaReads : Prop :=
  (∀ (a : Word) (s : State), busTarget a = .tia →
    let cx := s.tia.cx
    let dumped := s.tia.regs.vblank.getLsbD 7
    let latched := s.tia.regs.vblank.getLsbD 6
    ((memRead a s).1.getLsbD 7, (memRead a s).1.getLsbD 6) =
      [(cx.m0p1, cx.m0p0), (cx.m1p0, cx.m1p1), (cx.p0pf, cx.p0bl), (cx.p1pf, cx.p1bl), (cx.m0pf, cx.m0bl),
        (cx.m1pf, cx.m1bl), (cx.blpf, false), (cx.p0p1, cx.m0m1),
        (if dumped then false else s.input.in0, false), (if dumped then false else s.input.in1, false),
        (if dumped then false else s.input.in2, false), (if dumped then false else s.input.in3, false),
        (if latched then s.tia.inpt4Latch else s.input.in4, false),
        (if latched then s.tia.inpt5Latch else s.input.in5, false), (false, false), (false, false)].getD
        (a.toNat % 16) (false, false) ∧
    (∀ l, s.cfg.tiaReadLow = some l → (memRead a s).1.extractLsb' 0 6 = l) ∧ (memRead a s).2.tia = s.tia) ∧
  ∀ s : State,
    (tickDevices s).tia.inpt4Latch =
      (if s.tia.regs.vblank.getLsbD 6 then (if s.input.in4 then s.tia.inpt4Latch else false) else true) ∧
    (tickDevices s).tia.inpt5Latch =
      (if s.tia.regs.vblank.getLsbD 6 then (if s.input.in5 then s.tia.inpt5Latch else false) else true)

/-! ### Reset and the host -/

/-- The CPU's `reset()`: PC from the vector, low byte at $FFFC; I, B, the cycle of the instruction and the fault record
cleared; A, X, Y, S, N, V, D, Z, C and the devices as they were; no time passes (R501 to R504). Where the vector's bytes are
plain code nothing else of the machine changes at all. -/
def Obligations.CpuResetEffects : Prop :=
  ∀ s : State,
    (let lo := memRead 0xFFFC s
     let hi := memRead 0xFFFD lo.2
     (cpuReset s).cpu = { s.cpu with pc := wordOf hi.1 lo.1, i := false, b := false }) ∧
    (cpuReset s).pipe.tcyc = 0 ∧ (cpuReset s).cpuFault = none ∧ (cpuReset s).ram = s.ram ∧ (cpuReset s).tia = s.tia ∧
    (cpuReset s).riot = s.riot ∧ (cpuReset s).cycleCounter = s.cycleCounter ∧
    ∀ lo hi, s.codeByte 0xFFFC = some lo → s.codeByte 0xFFFD = some hi →
      cpuReset s = { s with
        cpu := { s.cpu with pc := wordOf hi lo, i := false, b := false }, pipe := Latches.idle, cpuFault := none }

/-- A machine constructed from a ROM image that fits its scheme has the values of R54's table, the OPEN ones as given, and
the bank count, hot range and extra RAM of its scheme and size (R79, R90 to R98). Scheme `e` is taken with parameters under
which the reset vector is no hot address and no RAM write port. That `prescale` is 0 and not open is the model's reading
(notes/assumptions/14.md, DEDUCED). -/
def Obligations.ConstructionValues : Prop :=
  ∀ (cfg : Config) (p : PowerOn) (tag : SchemeTag) (image : List Byte) (t : State),
    cfg.cartE.hHi < 0xFFC → cfg.cartE.ramSize ≤ 0xFFC → loadCartridge cfg p tag image = .next t →
    (∃ lo hi, peek 0xFFFC t = some lo ∧ peek 0xFFFD t = some hi ∧
      t.cpu = ⟨p.a, p.x, p.y, p.s, wordOf hi lo, p.n, p.v, false, p.d, false, p.z, p.c⟩) ∧
    t.pipe.tcyc = 0 ∧ t.cpuFault = none ∧ t.cycleCounter = 0 ∧ t.ram = p.ram ∧
    t.cart.variant = (match tag with
      | .singleBank => .single
      | .default =>
        if image.length = 8192 then .hot ⟨2, 0xFF8, 0xFF9, 0⟩ p.bank
        else if image.length = 12288 then .hot ⟨3, 0xFF8, 0xFFA, 256⟩ p.bank
        else if image.length = 16384 then .hot ⟨4, 0xFF6, 0xFF9, 0⟩ p.bank
        else if image.length = 32768 then .hot ⟨8, 0xFF4, 0xFFB, 0⟩ p.bank
        else .single
      | .f4 => .hot ⟨8, 0xFF4, 0xFFB, 0⟩ p.bank
      | .fe => .fe false false
      | .e => .hot cfg.cartE p.bank
      | .super =>
        if image.length = 8192 then .hot ⟨2, 0xFF8, 0xFF9, 128⟩ p.bank
        else if image.length = 16384 then .hot ⟨4, 0xFF6, 0xFF9, 128⟩ p.bank
        else .hot ⟨8, 0xFF4, 0xFFB, 128⟩ p.bank
      | .pb => .pb p.seg0 p.seg1 p.seg2
      | .mnet => .mnet p.mnetLo p.mnetRp
      | .cbs => .hot ⟨3, 0xFF8, 0xFFA, 256⟩ p.bank) ∧
    t.cart.tag = tag ∧ t.cart.romSize = image.length ∧ t.cart.ram = p.cartRam ∧
    (∀ k, Memory.read t.cart.rom k = image.getD k 0) ∧
    t.tia = ⟨0, 0, 0, false, false, false, TiaRegs.zero, Graphics.zero, ⟨0, 0, 0, 0, 0⟩, Collisions.clear,
      ⟨0, 0, 0, false, false⟩, [], true, true⟩ ∧
    t.riot = ⟨p.timer, .by1024, 0, false, false, 0, 0, 0, 0⟩ ∧ t.cfg = cfg

/-- Construction answers `InvalidCartridgeImage`, and no machine, exactly for an image size that the scheme does not
accept (R89 to R96, R98, R402). The size that scheme `e` accepts is the model's choice (notes/assumptions/25.md). -/
def Obligations.InvalidCartridgeImages : Prop :=
  ∀ (cfg : Config) (p : PowerOn) (tag : SchemeTag) (image : List Byte),
    let sizes : List Nat := match tag with
      | .singleBank => [2048, 4096]
      | .default => [2048, 4096, 8192, 12288, 16384, 32768]
      | .f4 => [32768]
      | .super => [8192, 16384, 32768]
      | .cbs => [12288]
      | .fe => [8192]
      | .pb => [8192]
      | .e => [cfg.cartE.nb * 4096]
      | .mnet => [16384]
    (image.length ∈ sizes → ∃ t, loadCartridge cfg p tag image = .next t) ∧
    (image.length ∉ sizes → loadCartridge cfg p tag image = .fault (.invalidCartridgeImage tag image.length))

/-- A snapshot restored into any machine with the same cartridge gives the captured machine back in all mutable state,
and into another is refused; one is taken at every instruction boundary and none in mid-instruction (R58, R403, R438). The
version tag and what stays with the target machine are the model's choice (notes/assumptions/16.md), and so are the answer
`none` in mid-instruction and a restore into a machine in mid-instruction (notes/assumptions/26.md). -/
def Obligations.SnapshotRestores : Prop :=
  ∀ (s t : State) (k : Snapshot),
    (s.pipe.tcyc ≠ 0 → capture s = none) ∧
    (s.pipe.tcyc = 0 → ∃ k', capture s = some k') ∧
    (capture s = some k → t.cart.tag = s.cart.tag → t.cart.romSize = s.cart.romSize → t.cart.rom = s.cart.rom →
      restore t k = .next { s with
        pipe := Latches.idle, cfg := t.cfg, inputs := t.inputs, draws := t.draws, video := t.video,
        audioOut := t.audioOut }) ∧
    (capture s = some k → ¬ (t.cart.tag = s.cart.tag ∧ t.cart.romSize = s.cart.romSize ∧ t.cart.rom = s.cart.rom) →
      restore t k = .fault (.incompatibleSnapshot k.version))

/-- `run_until` stops at the first call boundary where its predicate holds, or where a fault is recorded under `fatal`,
with nothing dropped, and makes no call past either (R434). The bound on the calls is the model's (notes/assumptions/21.md). -/
def Obligations.RunUntilStops : Prop :=
  ∀ (pred : State → Bool) (n : Nat) (s t : State),
    (runUntil pred n s = .stopped t →
      pred t = true ∧
      ∃ k ≤ n, t = advance^[k] s ∧ ∀ j < k, pred (advance^[j] s) = false ∧ (advance^[j] s).stuck = false) ∧
    (∀ f, runUntil pred n s = .faulted f t →
      pred t = false ∧ t.cfg.unimplPolicy = .fatal ∧
      (∃ r, t.cpuFault = some r ∧ f = .unimplementedOpcode r.pc r.opcode) ∧
      ∃ k ≤ n, t = advance^[k] s ∧ ∀ j < k, pred (advance^[j] s) = false ∧ (advance^[j] s).stuck = false) ∧
    (runUntil pred n s = .running t →
      t = advance^[n] s ∧ ∀ j < n, pred (advance^[j] s) = false ∧ (advance^[j] s).stuck = false)

end
end

