-- ==== Sys2Proof/Laws/Bits.lean ====
section
/-! SUPPORT. Laws of the bit-field helpers, and decoding of the three-byte form. -/

namespace Sys2Proof.Laws

@[simp] theorem highByte_wordOf (h l : Byte) : highByte (wordOf h l) = h := by
  simp only [highByte, wordOf]
  ext i hi
  rw [BitVec.getElem_extractLsb', BitVec.getLsbD_append]
  simp [BitVec.getLsbD_eq_getElem hi]

@[simp] theorem lowByte_wordOf (h l : Byte) : lowByte (wordOf h l) = l := by
  simp only [lowByte, wordOf]
  ext i hi
  rw [BitVec.getElem_extractLsb', BitVec.getLsbD_append]
  simp [hi]

@[simp] theorem wordOf_highByte_lowByte (w : Word) : wordOf (highByte w) (lowByte w) = w := by
  simp only [highByte, lowByte, wordOf]
  ext i hi
  simp only [BitVec.getElem_append, BitVec.getElem_extractLsb']
  split
  · simp [BitVec.getLsbD_eq_getElem hi]
  · rw [show 8 + (i - 8) = i by omega, BitVec.getLsbD_eq_getElem hi]

theorem wordOf_toNat (h l : Byte) : (wordOf h l).toNat = 256 * h.toNat + l.toNat := by
  have := l.isLt
  simp only [wordOf, BitVec.toNat_append]
  rw [← Nat.shiftLeft_add_eq_or_of_lt this, Nat.shiftLeft_eq]; omega

theorem lowByte_toNat (w : Word) : (lowByte w).toNat = w.toNat % 256 := by
  simp [lowByte, BitVec.extractLsb'_toNat]

theorem highByte_toNat (w : Word) : (highByte w).toNat = w.toNat / 256 := by
  have := w.isLt
  simp only [highByte, BitVec.extractLsb'_toNat, Nat.shiftRight_eq_div_pow]; omega

/-- Where the index does not carry, the uncorrected address is the effective address (R531). -/
theorem uncorrected_eq_indexed (base : Word) (idx : Byte) (h : crossesPage base idx = false) :
    uncorrected base idx = indexed base idx := by
  have h' : (lowByte base).toNat + idx.toNat < 256 := by
    simp only [crossesPage, decide_eq_false_iff_not] at h; omega
  apply BitVec.eq_of_toNat_eq
  have hb := base.isLt
  rw [lowByte_toNat] at h'
  simp only [uncorrected, indexed, zext16, wordOf_toNat, highByte_toNat, BitVec.toNat_add, lowByte_toNat,
    BitVec.toNat_setWidth]
  omega

/-- Where it carries, the uncorrected address lies 256 below the effective address (R531). -/
theorem uncorrected_eq_indexed_sub (base : Word) (idx : Byte) (h : crossesPage base idx = true) :
    uncorrected base idx = indexed base idx - 0x100 := by
  have h' : 256 ≤ (lowByte base).toNat + idx.toNat := by
    simp only [crossesPage, decide_eq_true_eq] at h; omega
  apply BitVec.eq_of_toNat_eq
  have hb := base.isLt
  have hi := idx.isLt
  rw [lowByte_toNat] at h'
  simp only [uncorrected, indexed, zext16, wordOf_toNat, highByte_toNat, BitVec.toNat_add, lowByte_toNat,
    BitVec.toNat_setWidth, BitVec.toNat_sub]
  rw [show (0x100 : Word).toNat = 256 from rfl]
  omega

/-- Adding index 0 needs no correction. -/
@[simp] theorem crossesPage_zero (base : Word) : crossesPage base 0 = false := by
  have := (lowByte base).isLt
  simp only [crossesPage, decide_eq_false_iff_not, show (0 : Byte).toNat = 0 from rfl]; omega

/-- The three bytes of a row of format F3 decode to that row's instruction. -/
theorem decode_threeBytes (op : Byte) (f : Word → Instr) (h : rowOf op = .f3 f) (a : Word) (rest : List Byte) :
    decode (threeBytes op a ++ rest) = .ok (f a, rest) := by
  simp [decode, threeBytes, h]

end Sys2Proof.Laws
end

