-- ==== Sys2Proof/Laws/Memory.lean ====
section
/-! SUPPORT. Laws of memories: what a read gives after a write, and that every operation keeps the canonical form. -/

namespace Sys2Proof.Laws

open Sys2Proof.Machine

@[simp] theorem read_nil (a : Nat) : Memory.read [] a = Memory.unlisted := rfl

theorem read_cons (k : Nat) (v : Byte) (t : Memory) (a : Nat) :
    Memory.read ((k, v) :: t) a = if k = a then v else Memory.read t a := rfl

/-! ### Erasing -/

theorem read_erase (m : Memory) (a b : Nat) :
    Memory.read (Memory.erase m a) b = if b = a then Memory.unlisted else Memory.read m b := by
  induction m with
  | nil => simp [Memory.erase]
  | cons p t ih =>
    obtain ⟨k, v⟩ := p
    by_cases hk : k = a
    · subst hk
      rw [Memory.erase, if_pos rfl, ih, read_cons]
      by_cases hb : b = k
      · simp [hb]
      · simp [hb, Ne.symm hb]
    · by_cases hb : k = b
      · subst hb
        simp [Memory.erase, hk, read_cons]
      · simp [Memory.erase, hk, read_cons, hb, ih]

theorem mem_erase {m : Memory} {a : Nat} {p : Host.Cell} : p ∈ Memory.erase m a ↔ p ∈ m ∧ p.1 ≠ a := by
  induction m with
  | nil => simp [Memory.erase]
  | cons q t ih =>
    obtain ⟨k, v⟩ := q
    by_cases hk : k = a
    · rw [Memory.erase, if_pos hk, ih]
      constructor
      · rintro ⟨h, h'⟩; exact ⟨List.mem_cons_of_mem _ h, h'⟩
      · rintro ⟨h, h'⟩
        rcases List.mem_cons.mp h with rfl | h
        · exact absurd hk h'
        · exact ⟨h, h'⟩
    · rw [Memory.erase, if_neg hk, List.mem_cons, List.mem_cons, ih]
      constructor
      · rintro (rfl | ⟨h, h'⟩)
        · exact ⟨.inl rfl, hk⟩
        · exact ⟨.inr h, h'⟩
      · rintro ⟨rfl | h, h'⟩
        · exact .inl rfl
        · exact .inr ⟨h, h'⟩

theorem pairwise_erase {m : Memory} (a : Nat) (h : m.Pairwise fun p q => p.1 < q.1) :
    (Memory.erase m a).Pairwise fun p q => p.1 < q.1 := by
  induction m with
  | nil => simp [Memory.erase]
  | cons q t ih =>
    obtain ⟨k, v⟩ := q
    rw [List.pairwise_cons] at h
    by_cases hk : k = a
    · rw [Memory.erase, if_pos hk]; exact ih h.2
    · rw [Memory.erase, if_neg hk, List.pairwise_cons]
      exact ⟨fun p hp => h.1 p (mem_erase.mp hp).1, ih h.2⟩

/-! ### Inserting -/

theorem read_insert (m : Memory) (a : Nat) (v : Byte) (b : Nat) (h : ∀ p ∈ m, p.1 ≠ a) :
    Memory.read (Memory.insert m a v) b = if b = a then v else Memory.read m b := by
  induction m with
  | nil => rw [Memory.insert, read_cons]; exact if_congr eq_comm rfl rfl
  | cons q t ih =>
    obtain ⟨k, w⟩ := q
    have hk : k ≠ a := h (k, w) (by simp)
    have ih := ih fun p hp => h p (by simp [hp])
    by_cases hlt : a < k
    · by_cases hb : b = a
      · simp [Memory.insert, hlt, read_cons, hb]
      · simp [Memory.insert, hlt, read_cons, hb, Ne.symm hb]
    · by_cases hb : k = b
      · subst hb
        simp [Memory.insert, hlt, read_cons, hk]
      · simp [Memory.insert, hlt, read_cons, hb, ih]

theorem mem_insert {m : Memory} {a : Nat} {v : Byte} {p : Host.Cell} :
    p ∈ Memory.insert m a v ↔ p = (a, v) ∨ p ∈ m := by
  induction m with
  | nil => simp [Memory.insert]
  | cons q t ih =>
    obtain ⟨k, w⟩ := q
    by_cases hlt : a < k
    · simp [Memory.insert, hlt]
    · rw [Memory.insert, if_neg hlt, List.mem_cons, ih, List.mem_cons]
      tauto

theorem pairwise_insert {m : Memory} {a : Nat} {v : Byte} (h : m.Pairwise fun p q => p.1 < q.1)
    (ha : ∀ p ∈ m, p.1 ≠ a) : (Memory.insert m a v).Pairwise fun p q => p.1 < q.1 := by
  induction m with
  | nil => simp [Memory.insert]
  | cons q t ih =>
    obtain ⟨k, w⟩ := q
    have hk : k ≠ a := ha (k, w) (by simp)
    rw [List.pairwise_cons] at h
    by_cases hlt : a < k
    · rw [Memory.insert, if_pos hlt, List.pairwise_cons]
      refine ⟨fun p hp => ?_, List.pairwise_cons.mpr h⟩
      rcases List.mem_cons.mp hp with rfl | hp
      · exact hlt
      · exact lt_trans hlt (h.1 p hp)
    · rw [Memory.insert, if_neg hlt, List.pairwise_cons]
      refine ⟨fun p hp => ?_, ih h.2 fun p hp => ha p (by simp [hp])⟩
      rcases mem_insert.mp hp with rfl | hp
      · simp only; omega
      · exact h.1 p hp

/-! ### Writing -/

/-- What a read gives after a write: the byte written at that cell, and at every other cell what it gave before. -/
theorem read_write (m : Memory) (a : Nat) (v : Byte) (b : Nat) :
    Memory.read (Memory.write m a v) b = if b = a then v else Memory.read m b := by
  by_cases hv : v = Memory.unlisted
  · rw [Memory.write, if_pos hv, read_erase, hv]
  · rw [Memory.write, if_neg hv, read_insert _ _ _ _ fun p hp => (mem_erase.mp hp).2, read_erase]
    by_cases hb : b = a <;> simp [hb]

@[simp] theorem read_write_same (m : Memory) (a : Nat) (v : Byte) : Memory.read (Memory.write m a v) a = v := by
  simp [read_write]

theorem read_write_other (m : Memory) (a : Nat) (v : Byte) {b : Nat} (h : b ≠ a) :
    Memory.read (Memory.write m a v) b = Memory.read m b := by
  simp [read_write, h]

/-- A write keeps the canonical form. -/
theorem wf_write {m : Memory} (a : Nat) (v : Byte) (h : Memory.wf m) : Memory.wf (Memory.write m a v) := by
  have he : Memory.wf (Memory.erase m a) := ⟨pairwise_erase a h.1, fun p hp => h.2 p (mem_erase.mp hp).1⟩
  by_cases hv : v = Memory.unlisted
  · rw [Memory.write, if_pos hv]; exact he
  · rw [Memory.write, if_neg hv]
    refine ⟨pairwise_insert he.1 fun p hp => (mem_erase.mp hp).2, fun p hp => ?_⟩
    rcases mem_insert.mp hp with rfl | hp
    · exact hv
    · exact he.2 p hp

/-- A write below `n` keeps every listed cell below `n`. -/
theorem below_write {m : Memory} {n a : Nat} (v : Byte) (h : Memory.below m n) (ha : a < n) :
    Memory.below (Memory.write m a v) n := by
  have he : Memory.below (Memory.erase m a) n := fun p hp => h p (mem_erase.mp hp).1
  by_cases hv : v = Memory.unlisted
  · rw [Memory.write, if_pos hv]; exact he
  · rw [Memory.write, if_neg hv]
    intro p hp
    rcases mem_insert.mp hp with rfl | hp
    · exact ha
    · exact he p hp

/-- Storing a sequence keeps the canonical form. -/
theorem wf_writeBytes (vs : List Byte) : ∀ {m : Memory} (a : Nat), Memory.wf m → Memory.wf (Memory.writeBytes m a vs) := by
  induction vs with
  | nil => exact fun _ h => h
  | cons v t ih => exact fun a h => ih (a + 1) (wf_write a v h)

/-- A cell that is not listed reads as `unlisted`. -/
theorem read_of_not_listed {m : Memory} {a : Nat} (h : ∀ p ∈ m, p.1 ≠ a) : Memory.read m a = Memory.unlisted := by
  induction m with
  | nil => rfl
  | cons q t ih =>
    obtain ⟨k, w⟩ := q
    rw [read_cons, if_neg (h (k, w) (by simp)), ih fun p hp => h p (by simp [hp])]

/-- Two memories in canonical form that read the same everywhere are the same list. -/
theorem ext_of_wf : ∀ {m n : Memory}, Memory.wf m → Memory.wf n → (∀ a, Memory.read m a = Memory.read n a) → m = n
  | [], [], _, _, _ => rfl
  | [], (k, w) :: t, _, hn, h => by
    have := h k
    rw [read_nil, read_cons, if_pos rfl] at this
    exact absurd this.symm (hn.2 (k, w) (by simp))
  | (k, w) :: t, [], hm, _, h => by
    have := h k
    rw [read_nil, read_cons, if_pos rfl] at this
    exact absurd this (hm.2 (k, w) (by simp))
  | (k, v) :: t, (l, w) :: u, hm, hn, h => by
    have hpm := List.pairwise_cons.mp hm.1
    have hpn := List.pairwise_cons.mp hn.1
    have hk : k = l := by
      rcases lt_trichotomy k l with hlt | heq | hgt
      · have hr := h k
        rw [read_cons, if_pos rfl, read_of_not_listed] at hr
        · exact absurd hr (hm.2 (k, v) (by simp))
        · intro p hp
          rcases List.mem_cons.mp hp with rfl | hp
          · exact (ne_of_gt hlt)
          · exact ne_of_gt (lt_trans hlt (hpn.1 p hp))
      · exact heq
      · have hr := h l
        rw [read_cons l w u l, if_pos rfl, read_of_not_listed] at hr
        · exact absurd hr.symm (hn.2 (l, w) (by simp))
        · intro p hp
          rcases List.mem_cons.mp hp with rfl | hp
          · exact (ne_of_gt hgt)
          · exact ne_of_gt (lt_trans hgt (hpm.1 p hp))
    subst hk
    have hv : v = w := by simpa [read_cons] using h k
    subst hv
    have ht : t = u := by
      refine ext_of_wf ⟨hpm.2, fun p hp => hm.2 p (by simp [hp])⟩ ⟨hpn.2, fun p hp => hn.2 p (by simp [hp])⟩ fun a => ?_
      by_cases ha : k = a
      · subst ha
        rw [read_of_not_listed fun p hp => ne_of_gt (hpm.1 p hp), read_of_not_listed fun p hp => ne_of_gt (hpn.1 p hp)]
      · simpa [read_cons, ha] using h a
    rw [ht]

end Sys2Proof.Laws
end

