-- ==== Sys2Proof/Laws/State.lean ====
section
/-! SUPPORT. One lemma for every field under every update of the machine, true by `rfl`. -/

namespace Sys2Proof.Laws

open Sys2Proof.Machine

@[simp] theorem withCpu_cpu (s : State) (c : Cpu) : (s.withCpu c).cpu = c := rfl
@[simp] theorem withCpu_pipe (s : State) (c : Cpu) : (s.withCpu c).pipe = s.pipe := rfl
@[simp] theorem withCpu_cpuFault (s : State) (c : Cpu) : (s.withCpu c).cpuFault = s.cpuFault := rfl
@[simp] theorem withCpu_cycleCounter (s : State) (c : Cpu) : (s.withCpu c).cycleCounter = s.cycleCounter := rfl
@[simp] theorem withCpu_ram (s : State) (c : Cpu) : (s.withCpu c).ram = s.ram := rfl
@[simp] theorem withCpu_cart (s : State) (c : Cpu) : (s.withCpu c).cart = s.cart := rfl
@[simp] theorem withCpu_tia (s : State) (c : Cpu) : (s.withCpu c).tia = s.tia := rfl
@[simp] theorem withCpu_riot (s : State) (c : Cpu) : (s.withCpu c).riot = s.riot := rfl
@[simp] theorem withCpu_cfg (s : State) (c : Cpu) : (s.withCpu c).cfg = s.cfg := rfl
@[simp] theorem withCpu_inputs (s : State) (c : Cpu) : (s.withCpu c).inputs = s.inputs := rfl
@[simp] theorem withCpu_draws (s : State) (c : Cpu) : (s.withCpu c).draws = s.draws := rfl
@[simp] theorem withCpu_video (s : State) (c : Cpu) : (s.withCpu c).video = s.video := rfl
@[simp] theorem withCpu_audioOut (s : State) (c : Cpu) : (s.withCpu c).audioOut = s.audioOut := rfl

@[simp] theorem withPipe_cpu (s : State) (p : Latches) : (s.withPipe p).cpu = s.cpu := rfl
@[simp] theorem withPipe_pipe (s : State) (p : Latches) : (s.withPipe p).pipe = p := rfl
@[simp] theorem withPipe_cpuFault (s : State) (p : Latches) : (s.withPipe p).cpuFault = s.cpuFault := rfl
@[simp] theorem withPipe_cycleCounter (s : State) (p : Latches) : (s.withPipe p).cycleCounter = s.cycleCounter := rfl
@[simp] theorem withPipe_ram (s : State) (p : Latches) : (s.withPipe p).ram = s.ram := rfl
@[simp] theorem withPipe_cart (s : State) (p : Latches) : (s.withPipe p).cart = s.cart := rfl
@[simp] theorem withPipe_tia (s : State) (p : Latches) : (s.withPipe p).tia = s.tia := rfl
@[simp] theorem withPipe_riot (s : State) (p : Latches) : (s.withPipe p).riot = s.riot := rfl
@[simp] theorem withPipe_cfg (s : State) (p : Latches) : (s.withPipe p).cfg = s.cfg := rfl
@[simp] theorem withPipe_inputs (s : State) (p : Latches) : (s.withPipe p).inputs = s.inputs := rfl
@[simp] theorem withPipe_draws (s : State) (p : Latches) : (s.withPipe p).draws = s.draws := rfl
@[simp] theorem withPipe_video (s : State) (p : Latches) : (s.withPipe p).video = s.video := rfl
@[simp] theorem withPipe_audioOut (s : State) (p : Latches) : (s.withPipe p).audioOut = s.audioOut := rfl

@[simp] theorem withCpuFault_cpu (s : State) (f : Option UnimplementedOpcode) : (s.withCpuFault f).cpu = s.cpu := rfl
@[simp] theorem withCpuFault_pipe (s : State) (f : Option UnimplementedOpcode) : (s.withCpuFault f).pipe = s.pipe := rfl
@[simp] theorem withCpuFault_cpuFault (s : State) (f : Option UnimplementedOpcode) : (s.withCpuFault f).cpuFault = f := rfl
@[simp] theorem withCpuFault_cycleCounter (s : State) (f : Option UnimplementedOpcode) : (s.withCpuFault f).cycleCounter = s.cycleCounter := rfl
@[simp] theorem withCpuFault_ram (s : State) (f : Option UnimplementedOpcode) : (s.withCpuFault f).ram = s.ram := rfl
@[simp] theorem withCpuFault_cart (s : State) (f : Option UnimplementedOpcode) : (s.withCpuFault f).cart = s.cart := rfl
@[simp] theorem withCpuFault_tia (s : State) (f : Option UnimplementedOpcode) : (s.withCpuFault f).tia = s.tia := rfl
@[simp] theorem withCpuFault_riot (s : State) (f : Option UnimplementedOpcode) : (s.withCpuFault f).riot = s.riot := rfl
@[simp] theorem withCpuFault_cfg (s : State) (f : Option UnimplementedOpcode) : (s.withCpuFault f).cfg = s.cfg := rfl
@[simp] theorem withCpuFault_inputs (s : State) (f : Option UnimplementedOpcode) : (s.withCpuFault f).inputs = s.inputs := rfl
@[simp] theorem withCpuFault_draws (s : State) (f : Option UnimplementedOpcode) : (s.withCpuFault f).draws = s.draws := rfl
@[simp] theorem withCpuFault_video (s : State) (f : Option UnimplementedOpcode) : (s.withCpuFault f).video = s.video := rfl
@[simp] theorem withCpuFault_audioOut (s : State) (f : Option UnimplementedOpcode) : (s.withCpuFault f).audioOut = s.audioOut := rfl

@[simp] theorem withRam_cpu (s : State) (m : Memory) : (s.withRam m).cpu = s.cpu := rfl
@[simp] theorem withRam_pipe (s : State) (m : Memory) : (s.withRam m).pipe = s.pipe := rfl
@[simp] theorem withRam_cpuFault (s : State) (m : Memory) : (s.withRam m).cpuFault = s.cpuFault := rfl
@[simp] theorem withRam_cycleCounter (s : State) (m : Memory) : (s.withRam m).cycleCounter = s.cycleCounter := rfl
@[simp] theorem withRam_ram (s : State) (m : Memory) : (s.withRam m).ram = m := rfl
@[simp] theorem withRam_cart (s : State) (m : Memory) : (s.withRam m).cart = s.cart := rfl
@[simp] theorem withRam_tia (s : State) (m : Memory) : (s.withRam m).tia = s.tia := rfl
@[simp] theorem withRam_riot (s : State) (m : Memory) : (s.withRam m).riot = s.riot := rfl
@[simp] theorem withRam_cfg (s : State) (m : Memory) : (s.withRam m).cfg = s.cfg := rfl
@[simp] theorem withRam_inputs (s : State) (m : Memory) : (s.withRam m).inputs = s.inputs := rfl
@[simp] theorem withRam_draws (s : State) (m : Memory) : (s.withRam m).draws = s.draws := rfl
@[simp] theorem withRam_video (s : State) (m : Memory) : (s.withRam m).video = s.video := rfl
@[simp] theorem withRam_audioOut (s : State) (m : Memory) : (s.withRam m).audioOut = s.audioOut := rfl

@[simp] theorem withCart_cpu (s : State) (c : Cart) : (s.withCart c).cpu = s.cpu := rfl
@[simp] theorem withCart_pipe (s : State) (c : Cart) : (s.withCart c).pipe = s.pipe := rfl
@[simp] theorem withCart_cpuFault (s : State) (c : Cart) : (s.withCart c).cpuFault = s.cpuFault := rfl
@[simp] theorem withCart_cycleCounter (s : State) (c : Cart) : (s.withCart c).cycleCounter = s.cycleCounter := rfl
@[simp] theorem withCart_ram (s : State) (c : Cart) : (s.withCart c).ram = s.ram := rfl
@[simp] theorem withCart_cart (s : State) (c : Cart) : (s.withCart c).cart = c := rfl
@[simp] theorem withCart_tia (s : State) (c : Cart) : (s.withCart c).tia = s.tia := rfl
@[simp] theorem withCart_riot (s : State) (c : Cart) : (s.withCart c).riot = s.riot := rfl
@[simp] theorem withCart_cfg (s : State) (c : Cart) : (s.withCart c).cfg = s.cfg := rfl
@[simp] theorem withCart_inputs (s : State) (c : Cart) : (s.withCart c).inputs = s.inputs := rfl
@[simp] theorem withCart_draws (s : State) (c : Cart) : (s.withCart c).draws = s.draws := rfl
@[simp] theorem withCart_video (s : State) (c : Cart) : (s.withCart c).video = s.video := rfl
@[simp] theorem withCart_audioOut (s : State) (c : Cart) : (s.withCart c).audioOut = s.audioOut := rfl

@[simp] theorem withTia_cpu (s : State) (t : Tia) : (s.withTia t).cpu = s.cpu := rfl
@[simp] theorem withTia_pipe (s : State) (t : Tia) : (s.withTia t).pipe = s.pipe := rfl
@[simp] theorem withTia_cpuFault (s : State) (t : Tia) : (s.withTia t).cpuFault = s.cpuFault := rfl
@[simp] theorem withTia_cycleCounter (s : State) (t : Tia) : (s.withTia t).cycleCounter = s.cycleCounter := rfl
@[simp] theorem withTia_ram (s : State) (t : Tia) : (s.withTia t).ram = s.ram := rfl
@[simp] theorem withTia_cart (s : State) (t : Tia) : (s.withTia t).cart = s.cart := rfl
@[simp] theorem withTia_tia (s : State) (t : Tia) : (s.withTia t).tia = t := rfl
@[simp] theorem withTia_riot (s : State) (t : Tia) : (s.withTia t).riot = s.riot := rfl
@[simp] theorem withTia_cfg (s : State) (t : Tia) : (s.withTia t).cfg = s.cfg := rfl
@[simp] theorem withTia_inputs (s : State) (t : Tia) : (s.withTia t).inputs = s.inputs := rfl
@[simp] theorem withTia_draws (s : State) (t : Tia) : (s.withTia t).draws = s.draws := rfl
@[simp] theorem withTia_video (s : State) (t : Tia) : (s.withTia t).video = s.video := rfl
@[simp] theorem withTia_audioOut (s : State) (t : Tia) : (s.withTia t).audioOut = s.audioOut := rfl

@[simp] theorem withRiot_cpu (s : State) (r : Riot) : (s.withRiot r).cpu = s.cpu := rfl
@[simp] theorem withRiot_pipe (s : State) (r : Riot) : (s.withRiot r).pipe = s.pipe := rfl
@[simp] theorem withRiot_cpuFault (s : State) (r : Riot) : (s.withRiot r).cpuFault = s.cpuFault := rfl
@[simp] theorem withRiot_cycleCounter (s : State) (r : Riot) : (s.withRiot r).cycleCounter = s.cycleCounter := rfl
@[simp] theorem withRiot_ram (s : State) (r : Riot) : (s.withRiot r).ram = s.ram := rfl
@[simp] theorem withRiot_cart (s : State) (r : Riot) : (s.withRiot r).cart = s.cart := rfl
@[simp] theorem withRiot_tia (s : State) (r : Riot) : (s.withRiot r).tia = s.tia := rfl
@[simp] theorem withRiot_riot (s : State) (r : Riot) : (s.withRiot r).riot = r := rfl
@[simp] theorem withRiot_cfg (s : State) (r : Riot) : (s.withRiot r).cfg = s.cfg := rfl
@[simp] theorem withRiot_inputs (s : State) (r : Riot) : (s.withRiot r).inputs = s.inputs := rfl
@[simp] theorem withRiot_draws (s : State) (r : Riot) : (s.withRiot r).draws = s.draws := rfl
@[simp] theorem withRiot_video (s : State) (r : Riot) : (s.withRiot r).video = s.video := rfl
@[simp] theorem withRiot_audioOut (s : State) (r : Riot) : (s.withRiot r).audioOut = s.audioOut := rfl

@[simp] theorem withDraws_cpu (s : State) (k : Nat) : (s.withDraws k).cpu = s.cpu := rfl
@[simp] theorem withDraws_pipe (s : State) (k : Nat) : (s.withDraws k).pipe = s.pipe := rfl
@[simp] theorem withDraws_cpuFault (s : State) (k : Nat) : (s.withDraws k).cpuFault = s.cpuFault := rfl
@[simp] theorem withDraws_cycleCounter (s : State) (k : Nat) : (s.withDraws k).cycleCounter = s.cycleCounter := rfl
@[simp] theorem withDraws_ram (s : State) (k : Nat) : (s.withDraws k).ram = s.ram := rfl
@[simp] theorem withDraws_cart (s : State) (k : Nat) : (s.withDraws k).cart = s.cart := rfl
@[simp] theorem withDraws_tia (s : State) (k : Nat) : (s.withDraws k).tia = s.tia := rfl
@[simp] theorem withDraws_riot (s : State) (k : Nat) : (s.withDraws k).riot = s.riot := rfl
@[simp] theorem withDraws_cfg (s : State) (k : Nat) : (s.withDraws k).cfg = s.cfg := rfl
@[simp] theorem withDraws_inputs (s : State) (k : Nat) : (s.withDraws k).inputs = s.inputs := rfl
@[simp] theorem withDraws_draws (s : State) (k : Nat) : (s.withDraws k).draws = k := rfl
@[simp] theorem withDraws_video (s : State) (k : Nat) : (s.withDraws k).video = s.video := rfl
@[simp] theorem withDraws_audioOut (s : State) (k : Nat) : (s.withDraws k).audioOut = s.audioOut := rfl

@[simp] theorem mapCpu_cpu (s : State) (f : Cpu → Cpu) : (s.mapCpu f).cpu = f s.cpu := rfl
@[simp] theorem mapCpu_pipe (s : State) (f : Cpu → Cpu) : (s.mapCpu f).pipe = s.pipe := rfl
@[simp] theorem mapCpu_cpuFault (s : State) (f : Cpu → Cpu) : (s.mapCpu f).cpuFault = s.cpuFault := rfl
@[simp] theorem mapCpu_cycleCounter (s : State) (f : Cpu → Cpu) : (s.mapCpu f).cycleCounter = s.cycleCounter := rfl
@[simp] theorem mapCpu_ram (s : State) (f : Cpu → Cpu) : (s.mapCpu f).ram = s.ram := rfl
@[simp] theorem mapCpu_cart (s : State) (f : Cpu → Cpu) : (s.mapCpu f).cart = s.cart := rfl
@[simp] theorem mapCpu_tia (s : State) (f : Cpu → Cpu) : (s.mapCpu f).tia = s.tia := rfl
@[simp] theorem mapCpu_riot (s : State) (f : Cpu → Cpu) : (s.mapCpu f).riot = s.riot := rfl
@[simp] theorem mapCpu_cfg (s : State) (f : Cpu → Cpu) : (s.mapCpu f).cfg = s.cfg := rfl
@[simp] theorem mapCpu_inputs (s : State) (f : Cpu → Cpu) : (s.mapCpu f).inputs = s.inputs := rfl
@[simp] theorem mapCpu_draws (s : State) (f : Cpu → Cpu) : (s.mapCpu f).draws = s.draws := rfl
@[simp] theorem mapCpu_video (s : State) (f : Cpu → Cpu) : (s.mapCpu f).video = s.video := rfl
@[simp] theorem mapCpu_audioOut (s : State) (f : Cpu → Cpu) : (s.mapCpu f).audioOut = s.audioOut := rfl

@[simp] theorem mapPipe_cpu (s : State) (f : Latches → Latches) : (s.mapPipe f).cpu = s.cpu := rfl
@[simp] theorem mapPipe_pipe (s : State) (f : Latches → Latches) : (s.mapPipe f).pipe = f s.pipe := rfl
@[simp] theorem mapPipe_cpuFault (s : State) (f : Latches → Latches) : (s.mapPipe f).cpuFault = s.cpuFault := rfl
@[simp] theorem mapPipe_cycleCounter (s : State) (f : Latches → Latches) : (s.mapPipe f).cycleCounter = s.cycleCounter := rfl
@[simp] theorem mapPipe_ram (s : State) (f : Latches → Latches) : (s.mapPipe f).ram = s.ram := rfl
@[simp] theorem mapPipe_cart (s : State) (f : Latches → Latches) : (s.mapPipe f).cart = s.cart := rfl
@[simp] theorem mapPipe_tia (s : State) (f : Latches → Latches) : (s.mapPipe f).tia = s.tia := rfl
@[simp] theorem mapPipe_riot (s : State) (f : Latches → Latches) : (s.mapPipe f).riot = s.riot := rfl
@[simp] theorem mapPipe_cfg (s : State) (f : Latches → Latches) : (s.mapPipe f).cfg = s.cfg := rfl
@[simp] theorem mapPipe_inputs (s : State) (f : Latches → Latches) : (s.mapPipe f).inputs = s.inputs := rfl
@[simp] theorem mapPipe_draws (s : State) (f : Latches → Latches) : (s.mapPipe f).draws = s.draws := rfl
@[simp] theorem mapPipe_video (s : State) (f : Latches → Latches) : (s.mapPipe f).video = s.video := rfl
@[simp] theorem mapPipe_audioOut (s : State) (f : Latches → Latches) : (s.mapPipe f).audioOut = s.audioOut := rfl

@[simp] theorem endCall_cpu (s : State) : (endCall s).cpu = s.cpu := rfl
@[simp] theorem endCall_pipe (s : State) : (endCall s).pipe = s.pipe := rfl
@[simp] theorem endCall_cpuFault (s : State) : (endCall s).cpuFault = s.cpuFault := rfl
@[simp] theorem endCall_cycleCounter (s : State) : (endCall s).cycleCounter = s.cycleCounter + 1 := rfl
@[simp] theorem endCall_ram (s : State) : (endCall s).ram = s.ram := rfl
@[simp] theorem endCall_cart (s : State) : (endCall s).cart = s.cart := rfl
@[simp] theorem endCall_tia (s : State) : (endCall s).tia = s.tia := rfl
@[simp] theorem endCall_riot (s : State) : (endCall s).riot = s.riot := rfl
@[simp] theorem endCall_cfg (s : State) : (endCall s).cfg = s.cfg := rfl
@[simp] theorem endCall_inputs (s : State) : (endCall s).inputs = s.inputs.tail := rfl
@[simp] theorem endCall_draws (s : State) : (endCall s).draws = s.draws := rfl
@[simp] theorem endCall_video (s : State) : (endCall s).video = s.video := rfl
@[simp] theorem endCall_audioOut (s : State) : (endCall s).audioOut = s.audioOut := rfl

@[simp] theorem raiseUnimplemented_cpu (pc : Word) (opcode : Byte) (s : State) :
    (raiseUnimplemented pc opcode s).cpu = s.cpu := rfl
@[simp] theorem raiseUnimplemented_pipe (pc : Word) (opcode : Byte) (s : State) :
    (raiseUnimplemented pc opcode s).pipe = s.pipe := rfl
@[simp] theorem raiseUnimplemented_cpuFault (pc : Word) (opcode : Byte) (s : State) :
    (raiseUnimplemented pc opcode s).cpuFault = some ⟨pc, opcode⟩ := rfl
@[simp] theorem raiseUnimplemented_cycleCounter (pc : Word) (opcode : Byte) (s : State) :
    (raiseUnimplemented pc opcode s).cycleCounter = s.cycleCounter := rfl
@[simp] theorem raiseUnimplemented_ram (pc : Word) (opcode : Byte) (s : State) :
    (raiseUnimplemented pc opcode s).ram = s.ram := rfl
@[simp] theorem raiseUnimplemented_cart (pc : Word) (opcode : Byte) (s : State) :
    (raiseUnimplemented pc opcode s).cart = s.cart := rfl
@[simp] theorem raiseUnimplemented_tia (pc : Word) (opcode : Byte) (s : State) :
    (raiseUnimplemented pc opcode s).tia = s.tia := rfl
@[simp] theorem raiseUnimplemented_riot (pc : Word) (opcode : Byte) (s : State) :
    (raiseUnimplemented pc opcode s).riot = s.riot := rfl
@[simp] theorem raiseUnimplemented_cfg (pc : Word) (opcode : Byte) (s : State) :
    (raiseUnimplemented pc opcode s).cfg = s.cfg := rfl
@[simp] theorem raiseUnimplemented_inputs (pc : Word) (opcode : Byte) (s : State) :
    (raiseUnimplemented pc opcode s).inputs = s.inputs := rfl
@[simp] theorem raiseUnimplemented_draws (pc : Word) (opcode : Byte) (s : State) :
    (raiseUnimplemented pc opcode s).draws = s.draws := rfl
@[simp] theorem raiseUnimplemented_video (pc : Word) (opcode : Byte) (s : State) :
    (raiseUnimplemented pc opcode s).video = s.video := rfl
@[simp] theorem raiseUnimplemented_audioOut (pc : Word) (opcode : Byte) (s : State) :
    (raiseUnimplemented pc opcode s).audioOut = s.audioOut := rfl

@[simp] theorem incPc_a (r : Cpu) : (r.incPc).a = r.a := rfl
@[simp] theorem incPc_x (r : Cpu) : (r.incPc).x = r.x := rfl
@[simp] theorem incPc_y (r : Cpu) : (r.incPc).y = r.y := rfl
@[simp] theorem incPc_s (r : Cpu) : (r.incPc).s = r.s := rfl
@[simp] theorem incPc_pc (r : Cpu) : (r.incPc).pc = r.pc + 1 := rfl
@[simp] theorem incPc_n (r : Cpu) : (r.incPc).n = r.n := rfl
@[simp] theorem incPc_v (r : Cpu) : (r.incPc).v = r.v := rfl
@[simp] theorem incPc_b (r : Cpu) : (r.incPc).b = r.b := rfl
@[simp] theorem incPc_d (r : Cpu) : (r.incPc).d = r.d := rfl
@[simp] theorem incPc_i (r : Cpu) : (r.incPc).i = r.i := rfl
@[simp] theorem incPc_z (r : Cpu) : (r.incPc).z = r.z := rfl
@[simp] theorem incPc_c (r : Cpu) : (r.incPc).c = r.c := rfl

@[simp] theorem decS_a (r : Cpu) : (r.decS).a = r.a := rfl
@[simp] theorem decS_x (r : Cpu) : (r.decS).x = r.x := rfl
@[simp] theorem decS_y (r : Cpu) : (r.decS).y = r.y := rfl
@[simp] theorem decS_s (r : Cpu) : (r.decS).s = r.s - 1 := rfl
@[simp] theorem decS_pc (r : Cpu) : (r.decS).pc = r.pc := rfl
@[simp] theorem decS_n (r : Cpu) : (r.decS).n = r.n := rfl
@[simp] theorem decS_v (r : Cpu) : (r.decS).v = r.v := rfl
@[simp] theorem decS_b (r : Cpu) : (r.decS).b = r.b := rfl
@[simp] theorem decS_d (r : Cpu) : (r.decS).d = r.d := rfl
@[simp] theorem decS_i (r : Cpu) : (r.decS).i = r.i := rfl
@[simp] theorem decS_z (r : Cpu) : (r.decS).z = r.z := rfl
@[simp] theorem decS_c (r : Cpu) : (r.decS).c = r.c := rfl

@[simp] theorem incS_a (r : Cpu) : (r.incS).a = r.a := rfl
@[simp] theorem incS_x (r : Cpu) : (r.incS).x = r.x := rfl
@[simp] theorem incS_y (r : Cpu) : (r.incS).y = r.y := rfl
@[simp] theorem incS_s (r : Cpu) : (r.incS).s = r.s + 1 := rfl
@[simp] theorem incS_pc (r : Cpu) : (r.incS).pc = r.pc := rfl
@[simp] theorem incS_n (r : Cpu) : (r.incS).n = r.n := rfl
@[simp] theorem incS_v (r : Cpu) : (r.incS).v = r.v := rfl
@[simp] theorem incS_b (r : Cpu) : (r.incS).b = r.b := rfl
@[simp] theorem incS_d (r : Cpu) : (r.incS).d = r.d := rfl
@[simp] theorem incS_i (r : Cpu) : (r.incS).i = r.i := rfl
@[simp] theorem incS_z (r : Cpu) : (r.incS).z = r.z := rfl
@[simp] theorem incS_c (r : Cpu) : (r.incS).c = r.c := rfl

@[simp] theorem setPc_a (r : Cpu) (t : Word) : (r.setPc t).a = r.a := rfl
@[simp] theorem setPc_x (r : Cpu) (t : Word) : (r.setPc t).x = r.x := rfl
@[simp] theorem setPc_y (r : Cpu) (t : Word) : (r.setPc t).y = r.y := rfl
@[simp] theorem setPc_s (r : Cpu) (t : Word) : (r.setPc t).s = r.s := rfl
@[simp] theorem setPc_pc (r : Cpu) (t : Word) : (r.setPc t).pc = t := rfl
@[simp] theorem setPc_n (r : Cpu) (t : Word) : (r.setPc t).n = r.n := rfl
@[simp] theorem setPc_v (r : Cpu) (t : Word) : (r.setPc t).v = r.v := rfl
@[simp] theorem setPc_b (r : Cpu) (t : Word) : (r.setPc t).b = r.b := rfl
@[simp] theorem setPc_d (r : Cpu) (t : Word) : (r.setPc t).d = r.d := rfl
@[simp] theorem setPc_i (r : Cpu) (t : Word) : (r.setPc t).i = r.i := rfl
@[simp] theorem setPc_z (r : Cpu) (t : Word) : (r.setPc t).z = r.z := rfl
@[simp] theorem setPc_c (r : Cpu) (t : Word) : (r.setPc t).c = r.c := rfl

@[simp] theorem setP_a (r : Cpu) (t : Byte) : (r.setP t).a = r.a := rfl
@[simp] theorem setP_x (r : Cpu) (t : Byte) : (r.setP t).x = r.x := rfl
@[simp] theorem setP_y (r : Cpu) (t : Byte) : (r.setP t).y = r.y := rfl
@[simp] theorem setP_s (r : Cpu) (t : Byte) : (r.setP t).s = r.s := rfl
@[simp] theorem setP_pc (r : Cpu) (t : Byte) : (r.setP t).pc = r.pc := rfl
@[simp] theorem setP_n (r : Cpu) (t : Byte) : (r.setP t).n = t.getLsbD 7 := rfl
@[simp] theorem setP_v (r : Cpu) (t : Byte) : (r.setP t).v = t.getLsbD 6 := rfl
@[simp] theorem setP_b (r : Cpu) (t : Byte) : (r.setP t).b = t.getLsbD 4 := rfl
@[simp] theorem setP_d (r : Cpu) (t : Byte) : (r.setP t).d = t.getLsbD 3 := rfl
@[simp] theorem setP_i (r : Cpu) (t : Byte) : (r.setP t).i = t.getLsbD 2 := rfl
@[simp] theorem setP_z (r : Cpu) (t : Byte) : (r.setP t).z = t.getLsbD 1 := rfl
@[simp] theorem setP_c (r : Cpu) (t : Byte) : (r.setP t).c = t.getLsbD 0 := rfl

@[simp] theorem setNZ_a (r : Cpu) (w : Byte) : (r.setNZ w).a = r.a := rfl
@[simp] theorem setNZ_x (r : Cpu) (w : Byte) : (r.setNZ w).x = r.x := rfl
@[simp] theorem setNZ_y (r : Cpu) (w : Byte) : (r.setNZ w).y = r.y := rfl
@[simp] theorem setNZ_s (r : Cpu) (w : Byte) : (r.setNZ w).s = r.s := rfl
@[simp] theorem setNZ_pc (r : Cpu) (w : Byte) : (r.setNZ w).pc = r.pc := rfl
@[simp] theorem setNZ_n (r : Cpu) (w : Byte) : (r.setNZ w).n = bit7 w := rfl
@[simp] theorem setNZ_v (r : Cpu) (w : Byte) : (r.setNZ w).v = r.v := rfl
@[simp] theorem setNZ_b (r : Cpu) (w : Byte) : (r.setNZ w).b = r.b := rfl
@[simp] theorem setNZ_d (r : Cpu) (w : Byte) : (r.setNZ w).d = r.d := rfl
@[simp] theorem setNZ_i (r : Cpu) (w : Byte) : (r.setNZ w).i = r.i := rfl
@[simp] theorem setNZ_z (r : Cpu) (w : Byte) : (r.setNZ w).z = (w == 0) := rfl
@[simp] theorem setNZ_c (r : Cpu) (w : Byte) : (r.setNZ w).c = r.c := rfl

end Sys2Proof.Laws
end

