-- ==== Sys2Proof/Laws/Scheduler.lean ====
section
/-! SUPPORT. What the device work of a call and the stalled calls before a CPU cycle can change (R430 to R433). -/

namespace Sys2Proof.Laws

open Sys2Proof.Machine

/-- Only time passes from `s` to `t`: the CPU, the memories, the cartridge, the parameters and the device registers that
only the CPU writes stay. -/
structure TimeOnly (s t : State) : Prop where
  cpu : t.cpu = s.cpu
  pipe : t.pipe = s.pipe
  cpuFault : t.cpuFault = s.cpuFault
  ram : t.ram = s.ram
  cart : t.cart = s.cart
  cfg : t.cfg = s.cfg
  draws : t.draws = s.draws
  tiaRegs : t.tia.regs = s.tia.regs
  ora : t.riot.ora = s.riot.ora
  orb : t.riot.orb = s.riot.orb
  ddra : t.riot.ddra = s.riot.ddra
  ddrb : t.riot.ddrb = s.riot.ddrb
  shift : t.riot.shift = s.riot.shift

theorem TimeOnly.refl (s : State) : TimeOnly s s := ⟨rfl, rfl, rfl, rfl, rfl, rfl, rfl, rfl, rfl, rfl, rfl, rfl, rfl⟩

theorem TimeOnly.trans {s t u : State} (h : TimeOnly s t) (k : TimeOnly t u) : TimeOnly s u :=
  ⟨k.cpu.trans h.cpu, k.pipe.trans h.pipe, k.cpuFault.trans h.cpuFault, k.ram.trans h.ram, k.cart.trans h.cart,
    k.cfg.trans h.cfg, k.draws.trans h.draws, k.tiaRegs.trans h.tiaRegs, k.ora.trans h.ora, k.orb.trans h.orb,
    k.ddra.trans h.ddra, k.ddrb.trans h.ddrb, k.shift.trans h.shift⟩

/-! ### Ticks -/

@[simp] theorem tia_tick_regs (div : Nat) (t : Tia) : (t.tick div).regs = t.regs := rfl

theorem tia_tick_hclock (div : Nat) (t : Tia) : (t.tick div).hclock = if 228 ≤ t.hclock + 1 then 0 else t.hclock + 1 := by
  change (if decide (228 ≤ t.hclock + 1) = true then 0 else t.hclock + 1) = _
  simp

theorem tia_tick_wsyncHalt (div : Nat) (t : Tia) :
    (t.tick div).wsyncHalt = if 228 ≤ t.hclock + 1 then false else t.wsyncHalt := by
  change (if decide (228 ≤ t.hclock + 1) = true then false else t.wsyncHalt) = _
  simp

/-- A RIOT tick moves the timer only. -/
theorem riot_tick_ports (r : Riot) :
    r.tick.ora = r.ora ∧ r.tick.orb = r.orb ∧ r.tick.ddra = r.ddra ∧ r.tick.ddrb = r.ddrb ∧ r.tick.shift = r.shift := by
  unfold Riot.tick
  split
  · simp
  · split
    · split <;> simp
    · simp

/-- `n` RIOT ticks are the tick taken `n` times (R450, R451). -/
theorem riot_ticks_eq_iterate (n : Nat) : ∀ r : Riot, Riot.ticks n r = Riot.tick^[n] r := by
  induction n with
  | zero => exact fun _ => rfl
  | succ n ih => exact fun r => ih r.tick

theorem riot_ticks_ports (n : Nat) : ∀ r : Riot,
    (Riot.ticks n r).ora = r.ora ∧ (Riot.ticks n r).orb = r.orb ∧ (Riot.ticks n r).ddra = r.ddra ∧
      (Riot.ticks n r).ddrb = r.ddrb ∧ (Riot.ticks n r).shift = r.shift := by
  induction n with
  | zero => intro r; simp [Riot.ticks]
  | succ n ih =>
    intro r
    obtain ⟨h1, h2, h3, h4, h5⟩ := ih r.tick
    obtain ⟨k1, k2, k3, k4, k5⟩ := riot_tick_ports r
    exact ⟨h1.trans k1, h2.trans k2, h3.trans k3, h4.trans k4, h5.trans k5⟩

/-! ### One call's device work -/

/-- The beam after the three ticks of a call. -/
theorem tickDevices_tia (s : State) :
    (tickDevices s).tia =
      (((s.tia.sampleInputs s.input).tick s.cfg.audioClockDiv).tick s.cfg.audioClockDiv).tick s.cfg.audioClockDiv := rfl

@[simp] theorem tickDevices_cpu (s : State) : (tickDevices s).cpu = s.cpu := by cases s; rfl

@[simp] theorem tickDevices_pipe (s : State) : (tickDevices s).pipe = s.pipe := by cases s; rfl

@[simp] theorem tickDevices_cpuFault (s : State) : (tickDevices s).cpuFault = s.cpuFault := by cases s; rfl

@[simp] theorem tickDevices_cycleCounter (s : State) : (tickDevices s).cycleCounter = s.cycleCounter := by cases s; rfl

@[simp] theorem tickDevices_ram (s : State) : (tickDevices s).ram = s.ram := by cases s; rfl

@[simp] theorem tickDevices_cart (s : State) : (tickDevices s).cart = s.cart := by cases s; rfl

@[simp] theorem tickDevices_cfg (s : State) : (tickDevices s).cfg = s.cfg := by cases s; rfl

@[simp] theorem tickDevices_inputs (s : State) : (tickDevices s).inputs = s.inputs := by cases s; rfl

@[simp] theorem tickDevices_draws (s : State) : (tickDevices s).draws = s.draws := by cases s; rfl

@[simp] theorem tickDevices_tia_regs (s : State) : (tickDevices s).tia.regs = s.tia.regs := by
  rw [tickDevices_tia]; simp only [tia_tick_regs]; rfl

theorem tickDevices_riot (s : State) : (tickDevices s).riot = Riot.ticks s.cfg.riotRate.ticks s.riot := rfl

theorem tickDevices_timeOnly (s : State) : TimeOnly s (tickDevices s) := by
  obtain ⟨h1, h2, h3, h4, h5⟩ := riot_ticks_ports s.cfg.riotRate.ticks s.riot
  constructor <;> first | rw [tickDevices_riot]; assumption | simp

theorem endCall_timeOnly (s : State) : TimeOnly s (endCall s) :=
  ⟨rfl, rfl, rfl, rfl, rfl, rfl, rfl, rfl, rfl, rfl, rfl, rfl, rfl⟩

@[simp] theorem tickDevices_withCpu (s : State) (c : Cpu) : tickDevices (s.withCpu c) = (tickDevices s).withCpu c := rfl

@[simp] theorem tickDevices_withPipe (s : State) (p : Latches) :
    tickDevices (s.withPipe p) = (tickDevices s).withPipe p := rfl

@[simp] theorem tickDevices_withCpuFault (s : State) (f : Option UnimplementedOpcode) :
    tickDevices (s.withCpuFault f) = (tickDevices s).withCpuFault f := rfl

@[simp] theorem endCall_withCpu (s : State) (c : Cpu) : endCall (s.withCpu c) = (endCall s).withCpu c := rfl

@[simp] theorem endCall_withPipe (s : State) (p : Latches) : endCall (s.withPipe p) = (endCall s).withPipe p := rfl

@[simp] theorem endCall_withCpuFault (s : State) (f : Option UnimplementedOpcode) :
    endCall (s.withCpuFault f) = (endCall s).withCpuFault f := rfl

theorem tickDevices_hclock (s : State) (h : s.tia.hclock < 228) :
    (tickDevices s).tia.hclock = (s.tia.hclock + 3) % 228 := by
  rw [tickDevices_tia]
  simp only [tia_tick_hclock]
  rw [show (s.tia.sampleInputs s.input).hclock = s.tia.hclock from rfl]
  split_ifs <;> omega

/-- A call whose CPU part is stalled has not wrapped the line (R432, R467). -/
theorem stalled_tickDevices (s : State) (h : (tickDevices s).stalled = true) :
    s.tia.wsyncHalt = true ∧ s.tia.hclock + 3 < 228 ∧ (tickDevices s).tia.hclock = s.tia.hclock + 3 := by
  have hh : (s.tia.sampleInputs s.input).hclock = s.tia.hclock := rfl
  have hw : (s.tia.sampleInputs s.input).wsyncHalt = s.tia.wsyncHalt := rfl
  rw [State.stalled, tickDevices_tia] at h
  rw [tickDevices_tia]
  simp only [tia_tick_wsyncHalt, tia_tick_hclock, hh, hw] at h ⊢
  split at h
  · simp at h
  · split at h
    · simp at h
    · split at h
      · simp at h
      · exact ⟨h, by omega, by split_ifs; omega⟩

/-- Where RDY is not asserted before a call it is not asserted in it. -/
theorem tickDevices_not_stalled (s : State) (h : s.tia.wsyncHalt = false) : (tickDevices s).stalled = false := by
  rcases hb : (tickDevices s).stalled with _ | _
  · rfl
  · rw [(stalled_tickDevices s hb).1] at h; exact absurd h (by simp)

/-! ### The stalled calls before a cycle -/

theorem awaitRdy_zero (s : State) : awaitRdy 0 s = tickDevices s := rfl

theorem awaitRdy_succ (n : Nat) (s : State) :
    awaitRdy (n + 1) s = if (tickDevices s).stalled then awaitRdy n (endCall (tickDevices s)) else tickDevices s := rfl

theorem awaitRdy_timeOnly (n : Nat) : ∀ s, TimeOnly s (awaitRdy n s) := by
  induction n with
  | zero => exact tickDevices_timeOnly
  | succ n ih =>
    intro s
    rw [awaitRdy_succ]
    split
    · exact ((tickDevices_timeOnly s).trans (endCall_timeOnly _)).trans (ih _)
    · exact tickDevices_timeOnly s

theorem ready_timeOnly (s : State) : TimeOnly s s.ready := awaitRdy_timeOnly stallBound s

/-- With enough calls left to the end of the line, RDY is released. -/
theorem awaitRdy_released (n : Nat) : ∀ s : State, 228 ≤ s.tia.hclock + 3 * (n + 1) → (awaitRdy n s).stalled = false := by
  induction n with
  | zero =>
    intro s h
    rcases hb : (tickDevices s).stalled with _ | _
    · exact hb
    · have := (stalled_tickDevices s hb).2.1; omega
  | succ n ih =>
    intro s h
    rw [awaitRdy_succ]
    split
    · rename_i hb
      have hh := (stalled_tickDevices s hb).2.2
      exact ih _ (by rw [endCall_tia, hh]; omega)
    · rename_i hb
      simpa using hb

/-- In the machine in which a CPU cycle runs, RDY is never asserted (R432). -/
theorem ready_not_stalled (s : State) : s.ready.stalled = false :=
  awaitRdy_released stallBound s (by rw [stallBound]; omega)

/-- Without a stall the cycle's call is the next one. -/
theorem ready_eq_tickDevices (s : State) (h : s.tia.wsyncHalt = false) : s.ready = tickDevices s := by
  rw [State.ready, stallBound, awaitRdy_succ, tickDevices_not_stalled s h]; rfl

@[simp] theorem awaitRdy_withCpu (n : Nat) : ∀ (s : State) (c : Cpu), awaitRdy n (s.withCpu c) = (awaitRdy n s).withCpu c := by
  induction n with
  | zero => exact fun _ _ => rfl
  | succ n ih =>
    intro s c
    rw [awaitRdy_succ, awaitRdy_succ, tickDevices_withCpu, endCall_withCpu, ih]
    change (if (tickDevices s).stalled = true then _ else _) = _
    split <;> rfl

@[simp] theorem awaitRdy_withPipe (n : Nat) : ∀ (s : State) (p : Latches),
    awaitRdy n (s.withPipe p) = (awaitRdy n s).withPipe p := by
  induction n with
  | zero => exact fun _ _ => rfl
  | succ n ih =>
    intro s p
    rw [awaitRdy_succ, awaitRdy_succ, tickDevices_withPipe, endCall_withPipe, ih]
    change (if (tickDevices s).stalled = true then _ else _) = _
    split <;> rfl

@[simp] theorem awaitRdy_withCpuFault (n : Nat) : ∀ (s : State) (f : Option UnimplementedOpcode),
    awaitRdy n (s.withCpuFault f) = (awaitRdy n s).withCpuFault f := by
  induction n with
  | zero => exact fun _ _ => rfl
  | succ n ih =>
    intro s f
    rw [awaitRdy_succ, awaitRdy_succ, tickDevices_withCpuFault, endCall_withCpuFault, ih]
    change (if (tickDevices s).stalled = true then _ else _) = _
    split <;> rfl

@[simp] theorem ready_withCpu (s : State) (c : Cpu) : (s.withCpu c).ready = s.ready.withCpu c := awaitRdy_withCpu _ s c

@[simp] theorem ready_withPipe (s : State) (p : Latches) : (s.withPipe p).ready = s.ready.withPipe p :=
  awaitRdy_withPipe _ s p

@[simp] theorem ready_withCpuFault (s : State) (f : Option UnimplementedOpcode) :
    (s.withCpuFault f).ready = s.ready.withCpuFault f := awaitRdy_withCpuFault _ s f

/-- The color clock stays `3 * cycle_counter mod 228` through the stalled calls; the cycle's own call has ticked but not
ended (R433). -/
theorem awaitRdy_hclock (n : Nat) : ∀ s : State, s.tia.hclock = 3 * s.cycleCounter % 228 →
    (awaitRdy n s).tia.hclock = 3 * ((awaitRdy n s).cycleCounter + 1) % 228 := by
  have base : ∀ s : State, s.tia.hclock = 3 * s.cycleCounter % 228 →
      (tickDevices s).tia.hclock = 3 * ((tickDevices s).cycleCounter + 1) % 228 := by
    intro s h
    rw [tickDevices_hclock s (by omega), tickDevices_cycleCounter, h]; omega
  induction n with
  | zero => exact base
  | succ n ih =>
    intro s h
    rw [awaitRdy_succ]
    split
    · exact ih _ (by rw [endCall_tia, endCall_cycleCounter]; exact base s h)
    · exact base s h

end Sys2Proof.Laws
end

