-- ==== Sys2Proof/Laws/Bus.lean ====
section
/-! SUPPORT. What one Bus access and one CPU cycle can do (R60 to R74, R430, R520). -/

namespace Sys2Proof.Laws

open Sys2Proof.Machine

/-! ### The cartridge -/

@[simp] theorem scheme_switch (v : Variant) (o : Nat) : (v.switch o).scheme = v.scheme := by cases v <;> rfl

@[simp] theorem scheme_snoop (v : Variant) (a : Nat) (d : Byte) : (v.snoop a d).scheme = v.scheme := by cases v <;> rfl

theorem mayReachPort_scheme (v : Variant) : v.scheme.mayReachPort = v.mayReachPort := by cases v <;> rfl

theorem ramSize_scheme (v : Variant) : v.scheme.ramSize = v.ramSize := by cases v <;> rfl

theorem mayReachPort_congr {v w : Variant} (h : v.scheme = w.scheme) : v.mayReachPort = w.mayReachPort := by
  rw [← mayReachPort_scheme v, h, mayReachPort_scheme]

theorem ramSize_congr {v w : Variant} (h : v.scheme = w.scheme) : v.ramSize = w.ramSize := by
  rw [← ramSize_scheme v, h, ramSize_scheme]

/-- A switch keeps the bank state in range (R79, R96, R98). -/
theorem inRange_switch {v : Variant} (o : Nat) (h : v.inRange = true) : (v.switch o).inRange = true := by
  cases v with
  | single => rfl
  | hot p bank =>
    simp only [Variant.inRange, Bool.and_eq_true, decide_eq_true_eq] at h
    simp only [Variant.switch, Variant.inRange, Bool.and_eq_true, decide_eq_true_eq]
    exact ⟨by split <;> omega, h.2⟩
  | fe bank1 armed => rfl
  | pb s0 s1 s2 =>
    simp only [Variant.inRange, Bool.and_eq_true, decide_eq_true_eq] at h
    simp only [Variant.switch, Variant.inRange, Bool.and_eq_true, decide_eq_true_eq]
    exact ⟨⟨by split <;> omega, by split <;> omega⟩, by split <;> omega⟩
  | mnet lo rp =>
    simp only [Variant.inRange, Bool.and_eq_true, decide_eq_true_eq] at h
    simp only [Variant.switch, Variant.inRange, Bool.and_eq_true, decide_eq_true_eq]
    exact ⟨by split <;> omega, by split <;> omega⟩

theorem inRange_snoop {v : Variant} (a : Nat) (d : Byte) (h : v.inRange = true) : (v.snoop a d).inRange = true := by
  cases v <;> exact h

/-- An offset that is not hot leaves the variant as it is (R86). -/
theorem switch_of_not_hot {v : Variant} {o : Nat} (h : v.hotOffset o = false) : v.switch o = v := by
  cases v with
  | single => rfl
  | hot p bank =>
    simp only [Variant.hotOffset, Bool.and_eq_false_iff, decide_eq_false_iff_not] at h
    simp only [Variant.switch]
    rw [if_neg (by omega)]
  | fe bank1 armed => rfl
  | pb s0 s1 s2 =>
    simp only [Variant.hotOffset, Bool.and_eq_false_iff, decide_eq_false_iff_not] at h
    simp only [Variant.switch]
    rw [if_neg (by omega), if_neg (by omega), if_neg (by omega)]
  | mnet lo rp =>
    simp only [Variant.hotOffset, Bool.and_eq_false_iff, decide_eq_false_iff_not] at h
    simp only [Variant.switch]
    rw [if_neg (by omega), if_neg (by omega)]

/-- The RAM cell of a write port is one that the offset may reach (R79, R88, R98). -/
theorem mayReachPort_of_locate {c : Cart} {o k : Nat} (h : (c.switched o).locate o = .writePort k) :
    c.variant.mayReachPort o k = true := by
  rw [← mayReachPort_congr (scheme_switch c.variant o)]
  change ((c.switched o).variant).mayReachPort o k = true
  generalize c.switched o = d at h
  obtain ⟨tag, romSize, rom, v, ram⟩ := d
  cases v with
  | single => simp [Cart.locate] at h
  | hot p bank =>
    simp only [Cart.locate] at h
    split_ifs at h with h1
    simp only [CartCell.writePort.injEq] at h
    subst h
    simp [Variant.mayReachPort, h1]
  | fe bank1 armed => simp [Cart.locate] at h
  | pb s0 s1 s2 => simp [Cart.locate] at h
  | mnet lo rp =>
    simp only [Cart.locate] at h
    split_ifs at h with h1 h2 h3 h4
    · simp only [CartCell.writePort.injEq] at h
      simp only [Variant.mayReachPort, Bool.or_eq_true, Bool.and_eq_true, decide_eq_true_eq, beq_iff_eq]
      exact .inl ⟨h3, h⟩
    · simp only [CartCell.writePort.injEq] at h
      simp only [Variant.mayReachPort, Bool.or_eq_true, Bool.and_eq_true, decide_eq_true_eq, beq_iff_eq]; omega

/-- The cell of a write port lies in the RAM (R79, R98). -/
theorem lt_ramSize_of_locate {c : Cart} {o k : Nat} (hr : c.variant.inRange = true)
    (h : (c.switched o).locate o = .writePort k) : k < c.variant.ramSize := by
  have hr' := inRange_switch o hr
  rw [← ramSize_congr (scheme_switch c.variant o)]
  change ((c.switched o).variant).inRange = true at hr'
  change k < ((c.switched o).variant).ramSize
  generalize c.switched o = d at h hr'
  obtain ⟨tag, romSize, rom, v, ram⟩ := d
  cases v with
  | single => simp [Cart.locate] at h
  | hot p bank =>
    simp only [Cart.locate] at h
    split_ifs at h with h1
    simp only [CartCell.writePort.injEq] at h
    simp only [Variant.ramSize]; omega
  | fe bank1 armed => simp [Cart.locate] at h
  | pb s0 s1 s2 => simp [Cart.locate] at h
  | mnet lo rp =>
    simp only [Variant.inRange, Bool.and_eq_true, decide_eq_true_eq] at hr'
    simp only [Cart.locate] at h
    split_ifs at h with h1 h2 h3 h4
    · simp only [CartCell.writePort.injEq] at h
      simp only [Variant.ramSize]; omega
    · simp only [CartCell.writePort.injEq] at h
      simp only [Variant.ramSize]; omega

/-- What `CartRead` can do to the cartridge: the switch, and at a write port one cell of the RAM (R86, R88). -/
theorem cart_read_cases (c : Cart) (o : Nat) (fresh : Byte × Byte) :
    (c.read o fresh).2 = c.switched o ∨
      ∃ k, (c.switched o).locate o = .writePort k ∧
        (c.read o fresh).2 = { c.switched o with ram := Memory.write c.ram k fresh.2 } := by
  simp only [Cart.read]
  split
  · exact .inl rfl
  · exact .inl rfl
  · rename_i k h
    exact .inr ⟨k, h, rfl⟩

/-- What `CartWrite` can do to the cartridge (R86 to R88). -/
theorem cart_write_cases (c : Cart) (o : Nat) (v : Byte) :
    c.write o v = c.switched o ∨
      ∃ k, (c.switched o).locate o = .writePort k ∧ c.write o v = { c.switched o with ram := Memory.write c.ram k v } := by
  simp only [Cart.write]
  split
  · rename_i k h
    exact .inr ⟨k, h, rfl⟩
  · exact .inl rfl
  · exact .inl rfl

/-- The window has 4096 offsets (R63). -/
theorem cart_offset_lt {a : Word} {o : Nat} (h : busTarget a = .cart o) : o < 4096 := by
  unfold busTarget at h
  split_ifs at h
  cases h
  omega

/-- A read in the window: `CartRead` with two free values, then the snoop (R85). -/
theorem memRead_window {a : Word} {o : Nat} (h : busTarget a = .cart o) (s : State) :
    (memRead a s).1 = (s.cart.read o (s.fresh 0, s.fresh 1)).1 ∧
    (memRead a s).2.cart =
      (s.cart.read o (s.fresh 0, s.fresh 1)).2.snoop (busAddress a) (s.cart.read o (s.fresh 0, s.fresh 1)).1 := by
  simp only [memRead, readTarget, h]
  exact ⟨rfl, rfl⟩

/-- A write in the window: `CartWrite`, then the snoop (R85). -/
theorem memWrite_window {a : Word} {o : Nat} (h : busTarget a = .cart o) (v : Byte) (s : State) :
    (memWrite a v s).cart = (s.cart.write o v).snoop (busAddress a) v := by
  simp only [memWrite, writeTarget, h]
  rfl

/-! ### One access -/

/-- What a Bus access leaves unchanged, whichever address it has. -/
structure AccessKeeps (s t : State) : Prop where
  cpu : t.cpu = s.cpu
  pipe : t.pipe = s.pipe
  cpuFault : t.cpuFault = s.cpuFault
  cycleCounter : t.cycleCounter = s.cycleCounter
  cfg : t.cfg = s.cfg
  inputs : t.inputs = s.inputs
  video : t.video = s.video
  audioOut : t.audioOut = s.audioOut
  rom : t.cart.rom = s.cart.rom
  romSize : t.cart.romSize = s.cart.romSize
  tag : t.cart.tag = s.cart.tag
  scheme : t.cart.variant.scheme = s.cart.variant.scheme

theorem readCart_keeps (o : Nat) (s : State) : AccessKeeps s (readCart o s).2 := by
  rcases cart_read_cases s.cart o (s.fresh 0, s.fresh 1) with h | ⟨k, -, h⟩
  all_goals constructor <;> first | rfl | (simp only [readCart, withDraws_cart, withCart_cart, h]; simp [Cart.switched])

theorem readTarget_keeps (a : Word) (s : State) : AccessKeeps s (readTarget a s).2 := by
  unfold readTarget
  split
  · constructor <;> rfl
  · constructor <;> rfl
  · constructor <;> rfl
  · exact readCart_keeps _ s

theorem snoopBus_keeps (a : Word) (d : Byte) (s : State) : AccessKeeps s (snoopBus a d s) := by
  constructor <;> first | rfl | simp [snoopBus, Cart.snoop]

theorem AccessKeeps.trans {s t u : State} (h : AccessKeeps s t) (k : AccessKeeps t u) : AccessKeeps s u :=
  ⟨k.cpu.trans h.cpu, k.pipe.trans h.pipe, k.cpuFault.trans h.cpuFault, k.cycleCounter.trans h.cycleCounter,
    k.cfg.trans h.cfg, k.inputs.trans h.inputs, k.video.trans h.video, k.audioOut.trans h.audioOut, k.rom.trans h.rom,
    k.romSize.trans h.romSize, k.tag.trans h.tag, k.scheme.trans h.scheme⟩

theorem memRead_keeps (a : Word) (s : State) : AccessKeeps s (memRead a s).2 :=
  (readTarget_keeps a s).trans (snoopBus_keeps a _ _)

theorem writeTarget_keeps (a : Word) (v : Byte) (s : State) : AccessKeeps s (writeTarget a v s) := by
  unfold writeTarget
  split
  · constructor <;> rfl
  · constructor <;> rfl
  · constructor <;> rfl
  · rename_i o _
    rcases cart_write_cases s.cart o v with h | ⟨k, -, h⟩
    all_goals constructor <;> first | rfl | (simp only [withCart_cart, h]; simp [Cart.switched])

theorem memWrite_keeps (a : Word) (v : Byte) (s : State) : AccessKeeps s (memWrite a v s) :=
  (writeTarget_keeps a v s).trans (snoopBus_keeps a _ _)

/-! ### Accesses do not look at the CPU -/

theorem readTarget_withCpu (a : Word) (s : State) (c : Cpu) :
    readTarget a (s.withCpu c) = ((readTarget a s).1, (readTarget a s).2.withCpu c) := by
  unfold readTarget; split <;> rfl

theorem memRead_withCpu (a : Word) (s : State) (c : Cpu) :
    memRead a (s.withCpu c) = ((memRead a s).1, (memRead a s).2.withCpu c) := by
  simp only [memRead, readTarget_withCpu]; rfl

theorem readTarget_withPipe (a : Word) (s : State) (p : Latches) :
    readTarget a (s.withPipe p) = ((readTarget a s).1, (readTarget a s).2.withPipe p) := by
  unfold readTarget; split <;> rfl

theorem memRead_withPipe (a : Word) (s : State) (p : Latches) :
    memRead a (s.withPipe p) = ((memRead a s).1, (memRead a s).2.withPipe p) := by
  simp only [memRead, readTarget_withPipe]; rfl

theorem readTarget_withCpuFault (a : Word) (s : State) (f : Option UnimplementedOpcode) :
    readTarget a (s.withCpuFault f) = ((readTarget a s).1, (readTarget a s).2.withCpuFault f) := by
  unfold readTarget; split <;> rfl

theorem memRead_withCpuFault (a : Word) (s : State) (f : Option UnimplementedOpcode) :
    memRead a (s.withCpuFault f) = ((memRead a s).1, (memRead a s).2.withCpuFault f) := by
  simp only [memRead, readTarget_withCpuFault]; rfl

theorem memWrite_withCpu (a : Word) (v : Byte) (s : State) (c : Cpu) :
    memWrite a v (s.withCpu c) = (memWrite a v s).withCpu c := by
  unfold memWrite writeTarget; split <;> rfl

theorem memWrite_withPipe (a : Word) (v : Byte) (s : State) (p : Latches) :
    memWrite a v (s.withPipe p) = (memWrite a v s).withPipe p := by
  unfold memWrite writeTarget; split <;> rfl

theorem memWrite_withCpuFault (a : Word) (v : Byte) (s : State) (f : Option UnimplementedOpcode) :
    memWrite a v (s.withCpuFault f) = (memWrite a v s).withCpuFault f := by
  unfold memWrite writeTarget; split <;> rfl

/-! ### One cycle -/

theorem cycleRead_withCpu (a : Word) (s : State) (c : Cpu) :
    cycleRead a (s.withCpu c) = ((cycleRead a s).1, (cycleRead a s).2.withCpu c) := by
  simp only [cycleRead, ready_withCpu, memRead_withCpu]; rfl

theorem cycleRead_withPipe (a : Word) (s : State) (p : Latches) :
    cycleRead a (s.withPipe p) = ((cycleRead a s).1, (cycleRead a s).2.withPipe p) := by
  simp only [cycleRead, ready_withPipe, memRead_withPipe]; rfl

theorem cycleRead_withCpuFault (a : Word) (s : State) (f : Option UnimplementedOpcode) :
    cycleRead a (s.withCpuFault f) = ((cycleRead a s).1, (cycleRead a s).2.withCpuFault f) := by
  simp only [cycleRead, ready_withCpuFault, memRead_withCpuFault]; rfl

theorem cycleWrite_withCpu (a : Word) (v : Byte) (s : State) (c : Cpu) :
    cycleWrite a v (s.withCpu c) = (cycleWrite a v s).withCpu c := by
  simp only [cycleWrite, ready_withCpu, memWrite_withCpu]; rfl

theorem cycleWrite_withPipe (a : Word) (v : Byte) (s : State) (p : Latches) :
    cycleWrite a v (s.withPipe p) = (cycleWrite a v s).withPipe p := by
  simp only [cycleWrite, ready_withPipe, memWrite_withPipe]; rfl

theorem cycleWrite_withCpuFault (a : Word) (v : Byte) (s : State) (f : Option UnimplementedOpcode) :
    cycleWrite a v (s.withCpuFault f) = (cycleWrite a v s).withCpuFault f := by
  simp only [cycleWrite, ready_withCpuFault, memWrite_withCpuFault]; rfl

/-- What a CPU cycle leaves unchanged, whichever access it makes. -/
structure CycleKeeps (s t : State) : Prop where
  cpu : t.cpu = s.cpu
  pipe : t.pipe = s.pipe
  cpuFault : t.cpuFault = s.cpuFault
  cfg : t.cfg = s.cfg
  rom : t.cart.rom = s.cart.rom
  romSize : t.cart.romSize = s.cart.romSize
  tag : t.cart.tag = s.cart.tag
  scheme : t.cart.variant.scheme = s.cart.variant.scheme

theorem CycleKeeps.of_access {s t : State} (h : AccessKeeps s.ready t) : CycleKeeps s (endCall t) := by
  have k := ready_timeOnly s
  have hc : s.ready.cart = s.cart := k.cart
  exact ⟨h.cpu.trans k.cpu, h.pipe.trans k.pipe, h.cpuFault.trans k.cpuFault, h.cfg.trans k.cfg,
    h.rom.trans (by rw [hc]), h.romSize.trans (by rw [hc]), h.tag.trans (by rw [hc]), h.scheme.trans (by rw [hc])⟩

theorem cycleRead_keeps (a : Word) (s : State) : CycleKeeps s (cycleRead a s).2 := .of_access (memRead_keeps a _)

theorem cycleDummy_keeps (a : Word) (s : State) : CycleKeeps s (cycleDummy a s) := cycleRead_keeps a s

theorem cycleWrite_keeps (a : Word) (v : Byte) (s : State) : CycleKeeps s (cycleWrite a v s) :=
  .of_access (memWrite_keeps a v _)

@[simp] theorem cycleRead_cpu (a : Word) (s : State) : (cycleRead a s).2.cpu = s.cpu := (cycleRead_keeps a s).cpu

@[simp] theorem cycleDummy_cpu (a : Word) (s : State) : (cycleDummy a s).cpu = s.cpu := (cycleDummy_keeps a s).cpu

@[simp] theorem cycleWrite_cpu (a : Word) (v : Byte) (s : State) : (cycleWrite a v s).cpu = s.cpu :=
  (cycleWrite_keeps a v s).cpu

@[simp] theorem cycleRead_cfg (a : Word) (s : State) : (cycleRead a s).2.cfg = s.cfg := (cycleRead_keeps a s).cfg

@[simp] theorem cycleDummy_cfg (a : Word) (s : State) : (cycleDummy a s).cfg = s.cfg := (cycleDummy_keeps a s).cfg

@[simp] theorem cycleWrite_cfg (a : Word) (v : Byte) (s : State) : (cycleWrite a v s).cfg = s.cfg :=
  (cycleWrite_keeps a v s).cfg

/-- A register update before a read cycle can be made after it. -/
theorem cycleRead_mapCpu (a : Word) (s : State) (f : Cpu → Cpu) :
    cycleRead a (s.mapCpu f) = ((cycleRead a s).1, (cycleRead a s).2.mapCpu f) := by
  rw [State.mapCpu, cycleRead_withCpu, State.mapCpu, cycleRead_cpu]

theorem cycleDummy_mapCpu (a : Word) (s : State) (f : Cpu → Cpu) :
    cycleDummy a (s.mapCpu f) = (cycleDummy a s).mapCpu f := by
  simp only [cycleDummy, cycleRead_mapCpu]

/-- A register update before a write cycle can be made after it. -/
theorem cycleWrite_mapCpu (a : Word) (v : Byte) (s : State) (f : Cpu → Cpu) :
    cycleWrite a v (s.mapCpu f) = (cycleWrite a v s).mapCpu f := by
  rw [State.mapCpu, cycleWrite_withCpu, State.mapCpu, cycleWrite_cpu]

end Sys2Proof.Laws
end

