-- ==== Sys2Proof/Laws/Cycle.lean ====
section
/-! SUPPORT. A single step taken apart into the cycles the CPU consumes: one lemma that says what `singleStep` does up to
the end of the next of them (60_exceptions.md R430, R432, R437). -/

namespace Sys2Proof.Laws

open Sys2Proof.Machine

/-- The call in which the CPU has its next cycle, from its device work on. -/
def consume (n : Nat) (s : State) : State := endCall (stepCycle (awaitRdy n s))

theorem stuck_of_timeOnly {s t : State} (h : TimeOnly s t) : t.stuck = s.stuck := by
  unfold State.stuck; rw [h.cpuFault, h.cfg]

theorem advance_of_stalled {s : State} (h : (tickDevices s).stalled = true) : advance s = endCall (tickDevices s) := by
  simp only [advance, h, if_true]

theorem advance_of_released {s : State} (h : (tickDevices s).stalled = false) :
    advance s = endCall (stepCycle (tickDevices s)) := by
  simp only [advance, h]; rfl

/-- A stalled call does not end a single step of a CPU that is not stuck. -/
theorem stepEnds_of_stalled {s : State} (h : (tickDevices s).stalled = true) (hs : s.stuck = false) : stepEnds s = false := by
  have e : (advance s).stuck = false := by
    rw [advance_of_stalled h, stuck_of_timeOnly (endCall_timeOnly _), stuck_of_timeOnly (tickDevices_timeOnly _), hs]
  simp only [stepEnds, h, e, Bool.not_true, Bool.false_and, Bool.or_false]

theorem stepEnds_of_released {s : State} (h : (tickDevices s).stalled = false) :
    stepEnds s = ((advance s).pipe.tcyc == 0 || (advance s).stuck) := by
  simp only [stepEnds, h, Bool.not_false, Bool.true_and]

/-- `singleStep` up to the end of the CPU's next cycle: at most `n + 1` calls, `n` being enough for the line to wrap. -/
theorem singleStep_consume (n : Nat) : ∀ s : State, s.stuck = false → 228 ≤ s.tia.hclock + 3 * (n + 1) →
    ∃ k, 1 ≤ k ∧ k ≤ n + 1 ∧ ∀ m, k ≤ m → singleStep m s =
      if (consume n s).pipe.tcyc = 0 ∨ (consume n s).stuck = true then consume n s else singleStep (m - k) (consume n s) := by
  have last : ∀ (n : Nat) (s : State), (tickDevices s).stalled = false → awaitRdy n s = tickDevices s →
      ∀ m, 1 ≤ m → singleStep m s =
        if (consume n s).pipe.tcyc = 0 ∨ (consume n s).stuck = true then consume n s
        else singleStep (m - 1) (consume n s) := by
    intro n s h ha m hm
    obtain ⟨m, rfl⟩ : ∃ k, m = k + 1 := ⟨m - 1, by omega⟩
    have e : advance s = consume n s := by rw [advance_of_released h, consume, ha]
    simp only [singleStep, stepEnds_of_released h, e, Bool.or_eq_true, beq_iff_eq, Nat.add_sub_cancel]
  induction n with
  | zero =>
    intro s hs hb
    have h : (tickDevices s).stalled = false := by
      have := awaitRdy_released 0 s hb
      simpa only [awaitRdy_zero] using this
    exact ⟨1, le_refl _, le_refl _, last 0 s h (awaitRdy_zero s)⟩
  | succ n ih =>
    intro s hs hb
    by_cases h : (tickDevices s).stalled = true
    · have ht := stalled_tickDevices s h
      obtain ⟨k, hk1, hk2, hk⟩ := ih (endCall (tickDevices s))
        (by rw [stuck_of_timeOnly (endCall_timeOnly _), stuck_of_timeOnly (tickDevices_timeOnly _), hs])
        (by simp only [endCall_tia]; omega)
      have ea : awaitRdy (n + 1) s = awaitRdy n (endCall (tickDevices s)) := by rw [awaitRdy_succ, if_pos h]
      refine ⟨k + 1, by omega, by omega, fun m hm => ?_⟩
      obtain ⟨m, rfl⟩ : ∃ j, m = j + 1 := ⟨m - 1, by omega⟩
      have ec : consume (n + 1) s = consume n (endCall (tickDevices s)) := by rw [consume, consume, ea]
      rw [ec, singleStep, stepEnds_of_stalled h hs, advance_of_stalled h, hk m (by omega)]
      simp only [Nat.add_sub_add_right, Bool.false_eq_true, if_false]
    · have h' : (tickDevices s).stalled = false := by simpa using h
      have ea : awaitRdy (n + 1) s = tickDevices s := by rw [awaitRdy_succ, if_neg h]
      exact ⟨1, le_refl _, by omega, last (n + 1) s h' ea⟩

/-- The same for `State.ready`, whatever the state. -/
theorem singleStep_ready (s : State) (hs : s.stuck = false) :
    ∃ k, 1 ≤ k ∧ k ≤ stallBound + 1 ∧ ∀ m, k ≤ m → singleStep m s =
      if (consume stallBound s).pipe.tcyc = 0 ∨ (consume stallBound s).stuck = true then consume stallBound s
      else singleStep (m - k) (consume stallBound s) :=
  singleStep_consume stallBound s hs (by simp only [stallBound]; omega)

end Sys2Proof.Laws
end

