-- ==== Sys2Proof/Laws/Exec.lean ====
section
/-! SUPPORT. One lemma for all of `exec`: an instruction runs the operation of its class. -/

namespace Sys2Proof.Laws

open Sys2Proof.Machine

/-- The operation of a class. -/
def run (k : Shape) (s : State) : State :=
  match k with
  | .implied op => runImplied op s
  | .acc op => runAcc op s
  | .read op o => runRead op o s
  | .store r o => runStore r o s
  | .rmw op o => runRmw op o s
  | .branch b d => runBranch b d s
  | .jmpAbs a => runJmpAbs a s
  | .jmpInd a => runJmpInd a s
  | .jsr a => runJsr a s
  | .rts => runRts s
  | .push r => runPush r s
  | .pull r => runPull r s
  | .brk => runBrk s
  | .rti => runRti s
  | .undocumented op => undocumented op s

/-- Every instruction answers a next state, that of its class's operation. -/
theorem exec_eq_run (i : Instr) (s : State) : exec i s = .next (run i.shape s) := by cases i <;> rfl

end Sys2Proof.Laws
end

