-- ==== Sys2Proof/Laws/Frame.lean ====
section
/-! SUPPORT. The frame of one cycle and of a sequence of cycles (R71, R72, R87, R88). -/

namespace Sys2Proof.Laws

open Sys2Proof.Machine

/-! ### One access -/

@[simp] theorem memRead_ram (a : Word) (s : State) : (memRead a s).2.ram = s.ram := by
  simp only [memRead, readTarget]; split <;> rfl

@[simp] theorem memRead_tia (a : Word) (s : State) : (memRead a s).2.tia = s.tia := by
  simp only [memRead, readTarget]; split <;> rfl

/-- A RIOT read can clear `underflow` and nothing else (R455). -/
theorem riot_read_cases (r : Riot) (inp : Inputs) (a : Word) :
    (r.read inp a).2 = r ∨ (r.read inp a).2 = { r with underflow := false } := by
  unfold Riot.read; split_ifs <;> simp

theorem memRead_riot_cases (a : Word) (s : State) :
    (memRead a s).2.riot = s.riot ∨ (memRead a s).2.riot = { s.riot with underflow := false } := by
  simp only [memRead, readTarget]
  split
  · exact .inl rfl
  · exact .inl rfl
  · exact riot_read_cases s.riot s.input a
  · exact .inl rfl

theorem memRead_riot_ports (a : Word) (s : State) :
    (memRead a s).2.riot.ora = s.riot.ora ∧ (memRead a s).2.riot.orb = s.riot.orb ∧
      (memRead a s).2.riot.ddra = s.riot.ddra ∧ (memRead a s).2.riot.ddrb = s.riot.ddrb ∧
      (memRead a s).2.riot.shift = s.riot.shift := by
  rcases memRead_riot_cases a s with h | h <;> rw [h] <;> simp

/-- A read changes a cartridge-RAM cell only where it may reach that cell's write port (R88). -/
theorem memRead_cartRam (a : Word) (s : State) (k : Nat) (h : s.mayTouchCartRam a k = false) :
    Memory.read (memRead a s).2.cart.ram k = Memory.read s.cart.ram k := by
  simp only [memRead, readTarget]
  unfold State.mayTouchCartRam at h
  split at h
  · rename_i o ho
    simp only [ho, snoopBus, withCart_cart, Cart.snoop, readCart, withDraws_cart]
    rcases cart_read_cases s.cart o (s.fresh 0, s.fresh 1) with hr | ⟨j, hj, hr⟩
    · rw [hr]; rfl
    · rw [hr]
      refine read_write_other _ _ _ fun hk => ?_
      subst hk
      rw [mayReachPort_of_locate hj] at h
      exact absurd h (by simp)
  · rename_i ho; simp only [ho]; rfl
  · rename_i ho; simp only [ho]; rfl
  · rename_i ho; simp only [ho]; rfl

/-- A write changes a RAM cell only where its address selects that cell (R65). -/
theorem memWrite_ram (a : Word) (v : Byte) (s : State) (k : Nat) :
    Memory.read (memWrite a v s).ram k = if busTarget a = .ram k then v else Memory.read s.ram k := by
  simp only [memWrite, writeTarget]
  split
  · rename_i ho; simp only [ho]; rfl
  · rename_i i ho
    simp only [ho, snoopBus, withCart_ram, withRam_ram, read_write, BusTarget.ram.injEq]
    exact if_congr eq_comm rfl rfl
  · rename_i ho; simp only [ho]; rfl
  · rename_i o ho; simp only [ho]; rfl

theorem memWrite_cartRam (a : Word) (v : Byte) (s : State) (k : Nat) (h : s.mayTouchCartRam a k = false) :
    Memory.read (memWrite a v s).cart.ram k = Memory.read s.cart.ram k := by
  simp only [memWrite, writeTarget]
  unfold State.mayTouchCartRam at h
  split at h
  · rename_i o ho
    simp only [ho, snoopBus, withCart_cart, Cart.snoop]
    rcases cart_write_cases s.cart o v with hr | ⟨j, hj, hr⟩
    · rw [hr]; rfl
    · rw [hr]
      refine read_write_other _ _ _ fun hk => ?_
      subst hk
      rw [mayReachPort_of_locate hj] at h
      exact absurd h (by simp)
  · rename_i ho; simp only [ho]; rfl
  · rename_i ho; simp only [ho]; rfl
  · rename_i ho; simp only [ho]; rfl

/-- A write that does not go to the TIA leaves it. -/
theorem memWrite_tia (a : Word) (v : Byte) (s : State) (h : busTarget a ≠ .tia) : (memWrite a v s).tia = s.tia := by
  simp only [memWrite, writeTarget]
  split
  · rename_i ho; exact absurd ho h
  all_goals rfl

/-- A write that does not go to the RIOT's registers leaves them. -/
theorem memWrite_riot (a : Word) (v : Byte) (s : State) (h : busTarget a ≠ .riot) : (memWrite a v s).riot = s.riot := by
  simp only [memWrite, writeTarget]
  split
  · rfl
  · rfl
  · rename_i ho; exact absurd ho h
  · rfl

/-! ### Frames -/

theorem mayTouchCartRam_congr {s t : State} (h : t.cart.variant.scheme = s.cart.variant.scheme) (a : Word) (k : Nat) :
    t.mayTouchCartRam a k = s.mayTouchCartRam a k := by
  unfold State.mayTouchCartRam; rw [mayReachPort_congr h]

theorem frame_refl (s : State) : Frame [] [] s s :=
  ⟨fun _ _ => rfl, fun _ _ => rfl, ⟨rfl, rfl, rfl⟩, rfl, fun _ => rfl, fun _ => ⟨rfl, rfl, rfl, rfl, rfl⟩, rfl, rfl⟩

/-- Frames of consecutive parts compose. -/
theorem frame_trans {r w r' w' : List Word} {s t u : State} (h : Frame r w s t) (k : Frame r' w' t u) :
    Frame (r ++ r') (w ++ w') s u where
  ram := fun i hi =>
    (k.ram i fun a ha => hi a (List.mem_append_right _ ha)).trans (h.ram i fun a ha => hi a (List.mem_append_left _ ha))
  cartRam := fun i hi =>
    (k.cartRam i fun a ha => by
      rw [mayTouchCartRam_congr h.scheme]
      exact hi a (by simp only [List.mem_append] at ha ⊢; tauto)).trans
    (h.cartRam i fun a ha => hi a (by simp only [List.mem_append] at ha ⊢; tauto))
  rom := ⟨k.rom.1.trans h.rom.1, k.rom.2.1.trans h.rom.2.1, k.rom.2.2.trans h.rom.2.2⟩
  scheme := k.scheme.trans h.scheme
  tiaRegs := fun hi =>
    (k.tiaRegs fun a ha => hi a (List.mem_append_right _ ha)).trans (h.tiaRegs fun a ha => hi a (List.mem_append_left _ ha))
  riotPorts := fun hi => by
    obtain ⟨a1, a2, a3, a4, a5⟩ := h.riotPorts fun a ha => hi a (List.mem_append_left _ ha)
    obtain ⟨b1, b2, b3, b4, b5⟩ := k.riotPorts fun a ha => hi a (List.mem_append_right _ ha)
    exact ⟨b1.trans a1, b2.trans a2, b3.trans a3, b4.trans a4, b5.trans a5⟩
  cfg := k.cfg.trans h.cfg
  pipe := k.pipe.trans h.pipe

theorem cycleRead_frame (a : Word) (s : State) : Frame [a] [] s (cycleRead a s).2 := by
  have k := ready_timeOnly s
  have c := cycleRead_keeps a s
  obtain ⟨p1, p2, p3, p4, p5⟩ := memRead_riot_ports a s.ready
  refine ⟨fun i _ => ?_, fun i hi => ?_, ⟨c.rom, c.romSize, c.tag⟩, c.scheme, fun _ => ?_, fun _ => ?_, c.cfg, c.pipe⟩
  · simp only [cycleRead, endCall_ram, memRead_ram, k.ram]
  · simp only [cycleRead, endCall_cart]
    rw [memRead_cartRam a s.ready i, k.cart]
    rw [mayTouchCartRam_congr (s := s) (by rw [k.cart])]
    exact hi a (by simp)
  · simp only [cycleRead, endCall_tia, memRead_tia, k.tiaRegs]
  · simp only [cycleRead, endCall_riot]
    exact ⟨p1.trans k.ora, p2.trans k.orb, p3.trans k.ddra, p4.trans k.ddrb, p5.trans k.shift⟩

theorem cycleDummy_frame (a : Word) (s : State) : Frame [a] [] s (cycleDummy a s) := cycleRead_frame a s

theorem cycleWrite_frame (a : Word) (v : Byte) (s : State) : Frame [] [a] s (cycleWrite a v s) := by
  have k := ready_timeOnly s
  have c := cycleWrite_keeps a v s
  refine ⟨fun i hi => ?_, fun i hi => ?_, ⟨c.rom, c.romSize, c.tag⟩, c.scheme, fun h => ?_, fun h => ?_, c.cfg, c.pipe⟩
  · simp only [cycleWrite, endCall_ram]
    rw [memWrite_ram, if_neg (hi a (by simp)), k.ram]
  · simp only [cycleWrite, endCall_cart]
    rw [memWrite_cartRam a v s.ready i, k.cart]
    rw [mayTouchCartRam_congr (s := s) (by rw [k.cart])]
    exact hi a (by simp)
  · simp only [cycleWrite, endCall_tia]
    rw [memWrite_tia a v _ (h a (by simp)), k.tiaRegs]
  · simp only [cycleWrite, endCall_riot]
    rw [memWrite_riot a v _ (h a (by simp))]
    exact ⟨k.ora, k.orb, k.ddra, k.ddrb, k.shift⟩

theorem mapCpu_frame (s : State) (f : Cpu → Cpu) : Frame [] [] s (s.mapCpu f) :=
  ⟨fun _ _ => rfl, fun _ _ => rfl, ⟨rfl, rfl, rfl⟩, rfl, fun _ => rfl, fun _ => ⟨rfl, rfl, rfl, rfl, rfl⟩, rfl, rfl⟩

theorem push_frame (v : Byte) (s : State) : Frame [] [stackPage s.cpu.s] s (push v s) :=
  frame_trans (cycleWrite_frame _ v s) (mapCpu_frame _ _)

theorem pull_frame (s : State) : Frame [stackPage (s.cpu.s + 1)] [] s (pull s).2 :=
  frame_trans (mapCpu_frame s Cpu.incS) (cycleRead_frame _ _)

end Sys2Proof.Laws
end

