-- ==== Sys2Proof/Laws/PerInstr.lean ====
section
/-! SUPPORT. The family RoundTrip, made per instruction: an instruction's bytes followed by any others decode to that
instruction and leave the others. -/

namespace Sys2Proof.Laws.RoundTrip

/-- Decoding the bytes of `i` followed by any bytes gives `i` and those bytes. -/
def Statement (i : Instr) : Prop := ∀ rest : List Byte, decode (encode i ++ rest) = .ok (i, rest)

theorem brk : Statement (.brk) := fun _ => rfl
theorem oraIndx (b : Byte) : Statement (.oraIndx b) := fun _ => rfl
theorem oraZp (b : Byte) : Statement (.oraZp b) := fun _ => rfl
theorem aslZp (b : Byte) : Statement (.aslZp b) := fun _ => rfl
theorem php : Statement (.php) := fun _ => rfl
theorem oraImm (v : Byte) : Statement (.oraImm v) := fun _ => rfl
theorem aslAcc : Statement (.aslAcc) := fun _ => rfl
theorem oraAbs (a : Word) : Statement (.oraAbs a) := fun rest => decode_threeBytes 0x0D .oraAbs rfl a rest
theorem aslAbs (a : Word) : Statement (.aslAbs a) := fun rest => decode_threeBytes 0x0E .aslAbs rfl a rest
theorem bpl (d : Byte) : Statement (.bpl d) := fun _ => rfl
theorem oraIndy (b : Byte) : Statement (.oraIndy b) := fun _ => rfl
theorem oraZpx (b : Byte) : Statement (.oraZpx b) := fun _ => rfl
theorem aslZpx (b : Byte) : Statement (.aslZpx b) := fun _ => rfl
theorem clc : Statement (.clc) := fun _ => rfl
theorem oraAbsy (a : Word) : Statement (.oraAbsy a) := fun rest => decode_threeBytes 0x19 .oraAbsy rfl a rest
theorem oraAbsx (a : Word) : Statement (.oraAbsx a) := fun rest => decode_threeBytes 0x1D .oraAbsx rfl a rest
theorem aslAbsx (a : Word) : Statement (.aslAbsx a) := fun rest => decode_threeBytes 0x1E .aslAbsx rfl a rest
theorem jsr (a : Word) : Statement (.jsr a) := fun rest => decode_threeBytes 0x20 .jsr rfl a rest
theorem andIndx (b : Byte) : Statement (.andIndx b) := fun _ => rfl
theorem bitZp (b : Byte) : Statement (.bitZp b) := fun _ => rfl
theorem andZp (b : Byte) : Statement (.andZp b) := fun _ => rfl
theorem rolZp (b : Byte) : Statement (.rolZp b) := fun _ => rfl
theorem plp : Statement (.plp) := fun _ => rfl
theorem andImm (v : Byte) : Statement (.andImm v) := fun _ => rfl
theorem rolAcc : Statement (.rolAcc) := fun _ => rfl
theorem bitAbs (a : Word) : Statement (.bitAbs a) := fun rest => decode_threeBytes 0x2C .bitAbs rfl a rest
theorem andAbs (a : Word) : Statement (.andAbs a) := fun rest => decode_threeBytes 0x2D .andAbs rfl a rest
theorem rolAbs (a : Word) : Statement (.rolAbs a) := fun rest => decode_threeBytes 0x2E .rolAbs rfl a rest
theorem bmi (d : Byte) : Statement (.bmi d) := fun _ => rfl
theorem andIndy (b : Byte) : Statement (.andIndy b) := fun _ => rfl
theorem andZpx (b : Byte) : Statement (.andZpx b) := fun _ => rfl
theorem rolZpx (b : Byte) : Statement (.rolZpx b) := fun _ => rfl
theorem sec : Statement (.sec) := fun _ => rfl
theorem andAbsy (a : Word) : Statement (.andAbsy a) := fun rest => decode_threeBytes 0x39 .andAbsy rfl a rest
theorem andAbsx (a : Word) : Statement (.andAbsx a) := fun rest => decode_threeBytes 0x3D .andAbsx rfl a rest
theorem rolAbsx (a : Word) : Statement (.rolAbsx a) := fun rest => decode_threeBytes 0x3E .rolAbsx rfl a rest
theorem rti : Statement (.rti) := fun _ => rfl
theorem eorIndx (b : Byte) : Statement (.eorIndx b) := fun _ => rfl
theorem eorZp (b : Byte) : Statement (.eorZp b) := fun _ => rfl
theorem lsrZp (b : Byte) : Statement (.lsrZp b) := fun _ => rfl
theorem pha : Statement (.pha) := fun _ => rfl
theorem eorImm (v : Byte) : Statement (.eorImm v) := fun _ => rfl
theorem lsrAcc : Statement (.lsrAcc) := fun _ => rfl
theorem jmpAbs (a : Word) : Statement (.jmpAbs a) := fun rest => decode_threeBytes 0x4C .jmpAbs rfl a rest
theorem eorAbs (a : Word) : Statement (.eorAbs a) := fun rest => decode_threeBytes 0x4D .eorAbs rfl a rest
theorem lsrAbs (a : Word) : Statement (.lsrAbs a) := fun rest => decode_threeBytes 0x4E .lsrAbs rfl a rest
theorem bvc (d : Byte) : Statement (.bvc d) := fun _ => rfl
theorem eorIndy (b : Byte) : Statement (.eorIndy b) := fun _ => rfl
theorem eorZpx (b : Byte) : Statement (.eorZpx b) := fun _ => rfl
theorem lsrZpx (b : Byte) : Statement (.lsrZpx b) := fun _ => rfl
theorem cli : Statement (.cli) := fun _ => rfl
theorem eorAbsy (a : Word) : Statement (.eorAbsy a) := fun rest => decode_threeBytes 0x59 .eorAbsy rfl a rest
theorem eorAbsx (a : Word) : Statement (.eorAbsx a) := fun rest => decode_threeBytes 0x5D .eorAbsx rfl a rest
theorem lsrAbsx (a : Word) : Statement (.lsrAbsx a) := fun rest => decode_threeBytes 0x5E .lsrAbsx rfl a rest
theorem rts : Statement (.rts) := fun _ => rfl
theorem adcIndx (b : Byte) : Statement (.adcIndx b) := fun _ => rfl
theorem adcZp (b : Byte) : Statement (.adcZp b) := fun _ => rfl
theorem rorZp (b : Byte) : Statement (.rorZp b) := fun _ => rfl
theorem pla : Statement (.pla) := fun _ => rfl
theorem adcImm (v : Byte) : Statement (.adcImm v) := fun _ => rfl
theorem rorAcc : Statement (.rorAcc) := fun _ => rfl
theorem jmpInd (a : Word) : Statement (.jmpInd a) := fun rest => decode_threeBytes 0x6C .jmpInd rfl a rest
theorem adcAbs (a : Word) : Statement (.adcAbs a) := fun rest => decode_threeBytes 0x6D .adcAbs rfl a rest
theorem rorAbs (a : Word) : Statement (.rorAbs a) := fun rest => decode_threeBytes 0x6E .rorAbs rfl a rest
theorem bvs (d : Byte) : Statement (.bvs d) := fun _ => rfl
theorem adcIndy (b : Byte) : Statement (.adcIndy b) := fun _ => rfl
theorem adcZpx (b : Byte) : Statement (.adcZpx b) := fun _ => rfl
theorem rorZpx (b : Byte) : Statement (.rorZpx b) := fun _ => rfl
theorem sei : Statement (.sei) := fun _ => rfl
theorem adcAbsy (a : Word) : Statement (.adcAbsy a) := fun rest => decode_threeBytes 0x79 .adcAbsy rfl a rest
theorem adcAbsx (a : Word) : Statement (.adcAbsx a) := fun rest => decode_threeBytes 0x7D .adcAbsx rfl a rest
theorem rorAbsx (a : Word) : Statement (.rorAbsx a) := fun rest => decode_threeBytes 0x7E .rorAbsx rfl a rest
theorem staIndx (b : Byte) : Statement (.staIndx b) := fun _ => rfl
theorem styZp (b : Byte) : Statement (.styZp b) := fun _ => rfl
theorem staZp (b : Byte) : Statement (.staZp b) := fun _ => rfl
theorem stxZp (b : Byte) : Statement (.stxZp b) := fun _ => rfl
theorem dey : Statement (.dey) := fun _ => rfl
theorem txa : Statement (.txa) := fun _ => rfl
theorem styAbs (a : Word) : Statement (.styAbs a) := fun rest => decode_threeBytes 0x8C .styAbs rfl a rest
theorem staAbs (a : Word) : Statement (.staAbs a) := fun rest => decode_threeBytes 0x8D .staAbs rfl a rest
theorem stxAbs (a : Word) : Statement (.stxAbs a) := fun rest => decode_threeBytes 0x8E .stxAbs rfl a rest
theorem bcc (d : Byte) : Statement (.bcc d) := fun _ => rfl
theorem staIndy (b : Byte) : Statement (.staIndy b) := fun _ => rfl
theorem styZpx (b : Byte) : Statement (.styZpx b) := fun _ => rfl
theorem staZpx (b : Byte) : Statement (.staZpx b) := fun _ => rfl
theorem stxZpy (b : Byte) : Statement (.stxZpy b) := fun _ => rfl
theorem tya : Statement (.tya) := fun _ => rfl
theorem staAbsy (a : Word) : Statement (.staAbsy a) := fun rest => decode_threeBytes 0x99 .staAbsy rfl a rest
theorem txs : Statement (.txs) := fun _ => rfl
theorem staAbsx (a : Word) : Statement (.staAbsx a) := fun rest => decode_threeBytes 0x9D .staAbsx rfl a rest
theorem ldyImm (v : Byte) : Statement (.ldyImm v) := fun _ => rfl
theorem ldaIndx (b : Byte) : Statement (.ldaIndx b) := fun _ => rfl
theorem ldxImm (v : Byte) : Statement (.ldxImm v) := fun _ => rfl
theorem ldyZp (b : Byte) : Statement (.ldyZp b) := fun _ => rfl
theorem ldaZp (b : Byte) : Statement (.ldaZp b) := fun _ => rfl
theorem ldxZp (b : Byte) : Statement (.ldxZp b) := fun _ => rfl
theorem tay : Statement (.tay) := fun _ => rfl
theorem ldaImm (v : Byte) : Statement (.ldaImm v) := fun _ => rfl
theorem tax : Statement (.tax) := fun _ => rfl
theorem ldyAbs (a : Word) : Statement (.ldyAbs a) := fun rest => decode_threeBytes 0xAC .ldyAbs rfl a rest
theorem ldaAbs (a : Word) : Statement (.ldaAbs a) := fun rest => decode_threeBytes 0xAD .ldaAbs rfl a rest
theorem ldxAbs (a : Word) : Statement (.ldxAbs a) := fun rest => decode_threeBytes 0xAE .ldxAbs rfl a rest
theorem bcs (d : Byte) : Statement (.bcs d) := fun _ => rfl
theorem ldaIndy (b : Byte) : Statement (.ldaIndy b) := fun _ => rfl
theorem ldyZpx (b : Byte) : Statement (.ldyZpx b) := fun _ => rfl
theorem ldaZpx (b : Byte) : Statement (.ldaZpx b) := fun _ => rfl
theorem ldxZpy (b : Byte) : Statement (.ldxZpy b) := fun _ => rfl
theorem clv : Statement (.clv) := fun _ => rfl
theorem ldaAbsy (a : Word) : Statement (.ldaAbsy a) := fun rest => decode_threeBytes 0xB9 .ldaAbsy rfl a rest
theorem tsx : Statement (.tsx) := fun _ => rfl
theorem ldyAbsx (a : Word) : Statement (.ldyAbsx a) := fun rest => decode_threeBytes 0xBC .ldyAbsx rfl a rest
theorem ldaAbsx (a : Word) : Statement (.ldaAbsx a) := fun rest => decode_threeBytes 0xBD .ldaAbsx rfl a rest
theorem ldxAbsy (a : Word) : Statement (.ldxAbsy a) := fun rest => decode_threeBytes 0xBE .ldxAbsy rfl a rest
theorem cpyImm (v : Byte) : Statement (.cpyImm v) := fun _ => rfl
theorem cmpIndx (b : Byte) : Statement (.cmpIndx b) := fun _ => rfl
theorem cpyZp (b : Byte) : Statement (.cpyZp b) := fun _ => rfl
theorem cmpZp (b : Byte) : Statement (.cmpZp b) := fun _ => rfl
theorem decZp (b : Byte) : Statement (.decZp b) := fun _ => rfl
theorem iny : Statement (.iny) := fun _ => rfl
theorem cmpImm (v : Byte) : Statement (.cmpImm v) := fun _ => rfl
theorem dex : Statement (.dex) := fun _ => rfl
theorem cpyAbs (a : Word) : Statement (.cpyAbs a) := fun rest => decode_threeBytes 0xCC .cpyAbs rfl a rest
theorem cmpAbs (a : Word) : Statement (.cmpAbs a) := fun rest => decode_threeBytes 0xCD .cmpAbs rfl a rest
theorem decAbs (a : Word) : Statement (.decAbs a) := fun rest => decode_threeBytes 0xCE .decAbs rfl a rest
theorem bne (d : Byte) : Statement (.bne d) := fun _ => rfl
theorem cmpIndy (b : Byte) : Statement (.cmpIndy b) := fun _ => rfl
theorem cmpZpx (b : Byte) : Statement (.cmpZpx b) := fun _ => rfl
theorem decZpx (b : Byte) : Statement (.decZpx b) := fun _ => rfl
theorem cld : Statement (.cld) := fun _ => rfl
theorem cmpAbsy (a : Word) : Statement (.cmpAbsy a) := fun rest => decode_threeBytes 0xD9 .cmpAbsy rfl a rest
theorem cmpAbsx (a : Word) : Statement (.cmpAbsx a) := fun rest => decode_threeBytes 0xDD .cmpAbsx rfl a rest
theorem decAbsx (a : Word) : Statement (.decAbsx a) := fun rest => decode_threeBytes 0xDE .decAbsx rfl a rest
theorem cpxImm (v : Byte) : Statement (.cpxImm v) := fun _ => rfl
theorem sbcIndx (b : Byte) : Statement (.sbcIndx b) := fun _ => rfl
theorem cpxZp (b : Byte) : Statement (.cpxZp b) := fun _ => rfl
theorem sbcZp (b : Byte) : Statement (.sbcZp b) := fun _ => rfl
theorem incZp (b : Byte) : Statement (.incZp b) := fun _ => rfl
theorem inx : Statement (.inx) := fun _ => rfl
theorem sbcImm (v : Byte) : Statement (.sbcImm v) := fun _ => rfl
theorem nop : Statement (.nop) := fun _ => rfl
theorem cpxAbs (a : Word) : Statement (.cpxAbs a) := fun rest => decode_threeBytes 0xEC .cpxAbs rfl a rest
theorem sbcAbs (a : Word) : Statement (.sbcAbs a) := fun rest => decode_threeBytes 0xED .sbcAbs rfl a rest
theorem incAbs (a : Word) : Statement (.incAbs a) := fun rest => decode_threeBytes 0xEE .incAbs rfl a rest
theorem beq (d : Byte) : Statement (.beq d) := fun _ => rfl
theorem sbcIndy (b : Byte) : Statement (.sbcIndy b) := fun _ => rfl
theorem sbcZpx (b : Byte) : Statement (.sbcZpx b) := fun _ => rfl
theorem incZpx (b : Byte) : Statement (.incZpx b) := fun _ => rfl
theorem sed : Statement (.sed) := fun _ => rfl
theorem sbcAbsy (a : Word) : Statement (.sbcAbsy a) := fun rest => decode_threeBytes 0xF9 .sbcAbsy rfl a rest
theorem sbcAbsx (a : Word) : Statement (.sbcAbsx a) := fun rest => decode_threeBytes 0xFD .sbcAbsx rfl a rest
theorem incAbsx (a : Word) : Statement (.incAbsx a) := fun rest => decode_threeBytes 0xFE .incAbsx rfl a rest
theorem undoc02 : Statement (.undoc02) := fun _ => rfl
theorem undoc03 : Statement (.undoc03) := fun _ => rfl
theorem undoc04 : Statement (.undoc04) := fun _ => rfl
theorem undoc07 : Statement (.undoc07) := fun _ => rfl
theorem undoc0B : Statement (.undoc0B) := fun _ => rfl
theorem undoc0C : Statement (.undoc0C) := fun _ => rfl
theorem undoc0F : Statement (.undoc0F) := fun _ => rfl
theorem undoc12 : Statement (.undoc12) := fun _ => rfl
theorem undoc13 : Statement (.undoc13) := fun _ => rfl
theorem undoc14 : Statement (.undoc14) := fun _ => rfl
theorem undoc17 : Statement (.undoc17) := fun _ => rfl
theorem undoc1A : Statement (.undoc1A) := fun _ => rfl
theorem undoc1B : Statement (.undoc1B) := fun _ => rfl
theorem undoc1C : Statement (.undoc1C) := fun _ => rfl
theorem undoc1F : Statement (.undoc1F) := fun _ => rfl
theorem undoc22 : Statement (.undoc22) := fun _ => rfl
theorem undoc23 : Statement (.undoc23) := fun _ => rfl
theorem undoc27 : Statement (.undoc27) := fun _ => rfl
theorem undoc2B : Statement (.undoc2B) := fun _ => rfl
theorem undoc2F : Statement (.undoc2F) := fun _ => rfl
theorem undoc32 : Statement (.undoc32) := fun _ => rfl
theorem undoc33 : Statement (.undoc33) := fun _ => rfl
theorem undoc34 : Statement (.undoc34) := fun _ => rfl
theorem undoc37 : Statement (.undoc37) := fun _ => rfl
theorem undoc3A : Statement (.undoc3A) := fun _ => rfl
theorem undoc3B : Statement (.undoc3B) := fun _ => rfl
theorem undoc3C : Statement (.undoc3C) := fun _ => rfl
theorem undoc3F : Statement (.undoc3F) := fun _ => rfl
theorem undoc42 : Statement (.undoc42) := fun _ => rfl
theorem undoc43 : Statement (.undoc43) := fun _ => rfl
theorem undoc44 : Statement (.undoc44) := fun _ => rfl
theorem undoc47 : Statement (.undoc47) := fun _ => rfl
theorem undoc4B : Statement (.undoc4B) := fun _ => rfl
theorem undoc4F : Statement (.undoc4F) := fun _ => rfl
theorem undoc52 : Statement (.undoc52) := fun _ => rfl
theorem undoc53 : Statement (.undoc53) := fun _ => rfl
theorem undoc54 : Statement (.undoc54) := fun _ => rfl
theorem undoc57 : Statement (.undoc57) := fun _ => rfl
theorem undoc5A : Statement (.undoc5A) := fun _ => rfl
theorem undoc5B : Statement (.undoc5B) := fun _ => rfl
theorem undoc5C : Statement (.undoc5C) := fun _ => rfl
theorem undoc5F : Statement (.undoc5F) := fun _ => rfl
theorem undoc62 : Statement (.undoc62) := fun _ => rfl
theorem undoc63 : Statement (.undoc63) := fun _ => rfl
theorem undoc64 : Statement (.undoc64) := fun _ => rfl
theorem undoc67 : Statement (.undoc67) := fun _ => rfl
theorem undoc6B : Statement (.undoc6B) := fun _ => rfl
theorem undoc6F : Statement (.undoc6F) := fun _ => rfl
theorem undoc72 : Statement (.undoc72) := fun _ => rfl
theorem undoc73 : Statement (.undoc73) := fun _ => rfl
theorem undoc74 : Statement (.undoc74) := fun _ => rfl
theorem undoc77 : Statement (.undoc77) := fun _ => rfl
theorem undoc7A : Statement (.undoc7A) := fun _ => rfl
theorem undoc7B : Statement (.undoc7B) := fun _ => rfl
theorem undoc7C : Statement (.undoc7C) := fun _ => rfl
theorem undoc7F : Statement (.undoc7F) := fun _ => rfl
theorem undoc80 : Statement (.undoc80) := fun _ => rfl
theorem undoc82 : Statement (.undoc82) := fun _ => rfl
theorem undoc83 : Statement (.undoc83) := fun _ => rfl
theorem undoc87 : Statement (.undoc87) := fun _ => rfl
theorem undoc89 : Statement (.undoc89) := fun _ => rfl
theorem undoc8B : Statement (.undoc8B) := fun _ => rfl
theorem undoc8F : Statement (.undoc8F) := fun _ => rfl
theorem undoc92 : Statement (.undoc92) := fun _ => rfl
theorem undoc93 : Statement (.undoc93) := fun _ => rfl
theorem undoc97 : Statement (.undoc97) := fun _ => rfl
theorem undoc9B : Statement (.undoc9B) := fun _ => rfl
theorem undoc9C : Statement (.undoc9C) := fun _ => rfl
theorem undoc9E : Statement (.undoc9E) := fun _ => rfl
theorem undoc9F : Statement (.undoc9F) := fun _ => rfl
theorem undocA3 : Statement (.undocA3) := fun _ => rfl
theorem undocA7 : Statement (.undocA7) := fun _ => rfl
theorem undocAB : Statement (.undocAB) := fun _ => rfl
theorem undocAF : Statement (.undocAF) := fun _ => rfl
theorem undocB2 : Statement (.undocB2) := fun _ => rfl
theorem undocB3 : Statement (.undocB3) := fun _ => rfl
theorem undocB7 : Statement (.undocB7) := fun _ => rfl
theorem undocBB : Statement (.undocBB) := fun _ => rfl
theorem undocBF : Statement (.undocBF) := fun _ => rfl
theorem undocC2 : Statement (.undocC2) := fun _ => rfl
theorem undocC3 : Statement (.undocC3) := fun _ => rfl
theorem undocC7 : Statement (.undocC7) := fun _ => rfl
theorem undocCB : Statement (.undocCB) := fun _ => rfl
theorem undocCF : Statement (.undocCF) := fun _ => rfl
theorem undocD2 : Statement (.undocD2) := fun _ => rfl
theorem undocD3 : Statement (.undocD3) := fun _ => rfl
theorem undocD4 : Statement (.undocD4) := fun _ => rfl
theorem undocD7 : Statement (.undocD7) := fun _ => rfl
theorem undocDA : Statement (.undocDA) := fun _ => rfl
theorem undocDB : Statement (.undocDB) := fun _ => rfl
theorem undocDC : Statement (.undocDC) := fun _ => rfl
theorem undocDF : Statement (.undocDF) := fun _ => rfl
theorem undocE2 : Statement (.undocE2) := fun _ => rfl
theorem undocE3 : Statement (.undocE3) := fun _ => rfl
theorem undocE7 : Statement (.undocE7) := fun _ => rfl
theorem undocEB : Statement (.undocEB) := fun _ => rfl
theorem undocEF : Statement (.undocEF) := fun _ => rfl
theorem undocF2 : Statement (.undocF2) := fun _ => rfl
theorem undocF3 : Statement (.undocF3) := fun _ => rfl
theorem undocF4 : Statement (.undocF4) := fun _ => rfl
theorem undocF7 : Statement (.undocF7) := fun _ => rfl
theorem undocFA : Statement (.undocFA) := fun _ => rfl
theorem undocFB : Statement (.undocFB) := fun _ => rfl
theorem undocFC : Statement (.undocFC) := fun _ => rfl
theorem undocFF : Statement (.undocFF) := fun _ => rfl

end Sys2Proof.Laws.RoundTrip
end

