-- ==== Sys2Proof/Laws/Reset.lean ====
section
/-! SUPPORT. The state after reset (70_reset_and_hazards.md R500, R502): it is the CPU's `reset()` of a machine under
construction; and the canonical form of the memories: reset has it, every access and the ROM editor keep it. -/

namespace Sys2Proof.Laws

open Sys2Proof.Machine

/-- `State.reset` is what the CPU's `reset()` leaves of a machine at power-on with a blank image (R500, R502). -/
theorem reset_is_cpuReset_of_powerOn :
    cpuReset (State.powerOn Config.simulation PowerOn.simulation Cart.blank) = State.reset := rfl

theorem wf_nil : Memory.wf [] := ⟨List.Pairwise.nil, fun _ h => absurd h (by simp)⟩

/-- The memories of the state after reset are canonical: nothing is listed. -/
theorem wf_reset : Memory.wf State.reset.ram ∧ Memory.wf State.reset.cart.rom ∧ Memory.wf State.reset.cart.ram :=
  ⟨wf_nil, wf_nil, wf_nil⟩

/-! ### Every access keeps the canonical form -/

theorem wf_cart_read {c : Cart} (o : Nat) (fresh : Byte × Byte) (h : Memory.wf c.ram) :
    Memory.wf (c.read o fresh).2.ram := by
  rcases cart_read_cases c o fresh with hr | ⟨k, _, hr⟩ <;> rw [hr]
  · exact h
  · exact wf_write _ _ h

theorem wf_cart_write {c : Cart} (o : Nat) (v : Byte) (h : Memory.wf c.ram) : Memory.wf (c.write o v).ram := by
  rcases cart_write_cases c o v with hr | ⟨k, _, hr⟩ <;> rw [hr]
  · exact h
  · exact wf_write _ _ h

theorem wf_memRead {s : State} (a : Word) (h : Memory.wf s.cart.ram) : Memory.wf (memRead a s).2.cart.ram := by
  simp only [memRead, readTarget]
  split
  · exact h
  · exact h
  · exact h
  · exact wf_cart_read _ _ h

theorem wf_memWrite {s : State} (a : Word) (v : Byte) (h : Memory.wf s.ram ∧ Memory.wf s.cart.ram) :
    Memory.wf (memWrite a v s).ram ∧ Memory.wf (memWrite a v s).cart.ram := by
  simp only [memWrite, writeTarget]
  split
  · exact h
  · exact ⟨wf_write _ _ h.1, h.2⟩
  · exact h
  · exact ⟨h.1, wf_cart_write _ _ h.2⟩

theorem wf_romEdit {s : State} (a : Word) (v : Byte) (h : Memory.wf s.cart.rom) :
    Memory.wf (romEdit a v s).cart.rom := by
  unfold romEdit
  split
  · exact wf_write _ _ h
  · exact h

end Sys2Proof.Laws
end

