-- ==== Sys2Proof/Tests/Slice0.lean ====
section
/-! SUPPORT. The author's tests. Expected values are those of spec/95_test_vectors.md (each test names its T entry) or of
the rule named; none comes from the model. Then one witness or more for every statement with hypotheses: a concrete state
and operands that meet them, for each clause. -/

namespace Sys2Proof.Tests

open Sys2Proof Sys2Proof.Machine Sys2Proof.Laws

/-! ### Helpers -/

/-- The machine after reset with `bytes` in ROM at PC `pc`, the CPU registers changed by `f`, and RAM `ram`. -/
def bench (pc : Word) (bytes : List Byte) (f : Cpu → Cpu) (ram : Memory) : State :=
  romEditBytes pc bytes ((State.reset.withRam ram).mapCpu fun c => f { c with pc := pc })

/-- The state one step later; where a step answers none, the state itself. -/
def stepped (s : State) : State :=
  match step s with
  | .next t => t
  | .fault _ => s
  | .refused _ => s

/-- What the instruction vectors fix: the CPU registers, the RAM and the cycles since reset. -/
def outcome (s : State) : Cpu × Memory × Nat := ((stepped s).cpu, (stepped s).ram, (stepped s).cycleCounter)

/-- Every instruction answers a next state. -/
theorem exec_next (i : Instr) (s : State) : ∃ t, exec i s = .next t := ⟨_, exec_eq_run i s⟩

/-- Every step answers a next state. -/
theorem step_next (s : State) : ∃ t, step s = .next t := by
  unfold step
  split
  · exact ⟨_, rfl⟩
  · split
    · exact ⟨_, rfl⟩
    · exact exec_next _ _

/-! ### Well-formedness (R150, R151) -/

theorem test_illFormed_undoc02 : ¬ WellFormed .undoc02 := by decide
theorem test_illFormed_undocFF : ¬ WellFormed .undocFF := by decide
theorem test_illFormed_undoc80 : ¬ WellFormed .undoc80 := by decide
theorem test_illFormed_undocEB : ¬ WellFormed .undocEB := by decide
theorem test_wellFormed_nop : WellFormed .nop := by decide
theorem test_wellFormed_any_operand : ∀ v : Byte, WellFormed (.ldaImm v) := fun _ => rfl

/-! ### Decoding (R120, R121, R140, R151) -/

/-- Opcodes `$00` to `$0F`: R140's rows with operand bytes `$34 $12`, R151's bytes for the rest. -/
theorem test_decode_row_0 : ∀ p ∈ ([([0b00000000], .brk), ([0b00000001, 0x34], .oraIndx 0x34), ([0b00000010], .undoc02), ([0b00000011], .undoc03),
      ([0b00000100], .undoc04), ([0b00000101, 0x34], .oraZp 0x34), ([0b00000110, 0x34], .aslZp 0x34), ([0b00000111], .undoc07),
      ([0b00001000], .php), ([0b00001001, 0x34], .oraImm 0x34), ([0b00001010], .aslAcc), ([0b00001011], .undoc0B),
      ([0b00001100], .undoc0C), ([0b00001101, 0x34, 0x12], .oraAbs 0x1234), ([0b00001110, 0x34, 0x12], .aslAbs 0x1234), ([0b00001111], .undoc0F)] : List (List Byte × Instr)),
    decode p.1 = .ok (p.2, []) := by decide

/-- Opcodes `$10` to `$1F`: R140's rows with operand bytes `$34 $12`, R151's bytes for the rest. -/
theorem test_decode_row_1 : ∀ p ∈ ([([0b00010000, 0x34], .bpl 0x34), ([0b00010001, 0x34], .oraIndy 0x34), ([0b00010010], .undoc12), ([0b00010011], .undoc13),
      ([0b00010100], .undoc14), ([0b00010101, 0x34], .oraZpx 0x34), ([0b00010110, 0x34], .aslZpx 0x34), ([0b00010111], .undoc17),
      ([0b00011000], .clc), ([0b00011001, 0x34, 0x12], .oraAbsy 0x1234), ([0b00011010], .undoc1A), ([0b00011011], .undoc1B),
      ([0b00011100], .undoc1C), ([0b00011101, 0x34, 0x12], .oraAbsx 0x1234), ([0b00011110, 0x34, 0x12], .aslAbsx 0x1234), ([0b00011111], .undoc1F)] : List (List Byte × Instr)),
    decode p.1 = .ok (p.2, []) := by decide

/-- Opcodes `$20` to `$2F`: R140's rows with operand bytes `$34 $12`, R151's bytes for the rest. -/
theorem test_decode_row_2 : ∀ p ∈ ([([0b00100000, 0x34, 0x12], .jsr 0x1234), ([0b00100001, 0x34], .andIndx 0x34), ([0b00100010], .undoc22), ([0b00100011], .undoc23),
      ([0b00100100, 0x34], .bitZp 0x34), ([0b00100101, 0x34], .andZp 0x34), ([0b00100110, 0x34], .rolZp 0x34), ([0b00100111], .undoc27),
      ([0b00101000], .plp), ([0b00101001, 0x34], .andImm 0x34), ([0b00101010], .rolAcc), ([0b00101011], .undoc2B),
      ([0b00101100, 0x34, 0x12], .bitAbs 0x1234), ([0b00101101, 0x34, 0x12], .andAbs 0x1234), ([0b00101110, 0x34, 0x12], .rolAbs 0x1234), ([0b00101111], .undoc2F)] : List (List Byte × Instr)),
    decode p.1 = .ok (p.2, []) := by decide

/-- Opcodes `$30` to `$3F`: R140's rows with operand bytes `$34 $12`, R151's bytes for the rest. -/
theorem test_decode_row_3 : ∀ p ∈ ([([0b00110000, 0x34], .bmi 0x34), ([0b00110001, 0x34], .andIndy 0x34), ([0b00110010], .undoc32), ([0b00110011], .undoc33),
      ([0b00110100], .undoc34), ([0b00110101, 0x34], .andZpx 0x34), ([0b00110110, 0x34], .rolZpx 0x34), ([0b00110111], .undoc37),
      ([0b00111000], .sec), ([0b00111001, 0x34, 0x12], .andAbsy 0x1234), ([0b00111010], .undoc3A), ([0b00111011], .undoc3B),
      ([0b00111100], .undoc3C), ([0b00111101, 0x34, 0x12], .andAbsx 0x1234), ([0b00111110, 0x34, 0x12], .rolAbsx 0x1234), ([0b00111111], .undoc3F)] : List (List Byte × Instr)),
    decode p.1 = .ok (p.2, []) := by decide

/-- Opcodes `$40` to `$4F`: R140's rows with operand bytes `$34 $12`, R151's bytes for the rest. -/
theorem test_decode_row_4 : ∀ p ∈ ([([0b01000000], .rti), ([0b01000001, 0x34], .eorIndx 0x34), ([0b01000010], .undoc42), ([0b01000011], .undoc43),
      ([0b01000100], .undoc44), ([0b01000101, 0x34], .eorZp 0x34), ([0b01000110, 0x34], .lsrZp 0x34), ([0b01000111], .undoc47),
      ([0b01001000], .pha), ([0b01001001, 0x34], .eorImm 0x34), ([0b01001010], .lsrAcc), ([0b01001011], .undoc4B),
      ([0b01001100, 0x34, 0x12], .jmpAbs 0x1234), ([0b01001101, 0x34, 0x12], .eorAbs 0x1234), ([0b01001110, 0x34, 0x12], .lsrAbs 0x1234), ([0b01001111], .undoc4F)] : List (List Byte × Instr)),
    decode p.1 = .ok (p.2, []) := by decide

/-- Opcodes `$50` to `$5F`: R140's rows with operand bytes `$34 $12`, R151's bytes for the rest. -/
theorem test_decode_row_5 : ∀ p ∈ ([([0b01010000, 0x34], .bvc 0x34), ([0b01010001, 0x34], .eorIndy 0x34), ([0b01010010], .undoc52), ([0b01010011], .undoc53),
      ([0b01010100], .undoc54), ([0b01010101, 0x34], .eorZpx 0x34), ([0b01010110, 0x34], .lsrZpx 0x34), ([0b01010111], .undoc57),
      ([0b01011000], .cli), ([0b01011001, 0x34, 0x12], .eorAbsy 0x1234), ([0b01011010], .undoc5A), ([0b01011011], .undoc5B),
      ([0b01011100], .undoc5C), ([0b01011101, 0x34, 0x12], .eorAbsx 0x1234), ([0b01011110, 0x34, 0x12], .lsrAbsx 0x1234), ([0b01011111], .undoc5F)] : List (List Byte × Instr)),
    decode p.1 = .ok (p.2, []) := by decide

/-- Opcodes `$60` to `$6F`: R140's rows with operand bytes `$34 $12`, R151's bytes for the rest. -/
theorem test_decode_row_6 : ∀ p ∈ ([([0b01100000], .rts), ([0b01100001, 0x34], .adcIndx 0x34), ([0b01100010], .undoc62), ([0b01100011], .undoc63),
      ([0b01100100], .undoc64), ([0b01100101, 0x34], .adcZp 0x34), ([0b01100110, 0x34], .rorZp 0x34), ([0b01100111], .undoc67),
      ([0b01101000], .pla), ([0b01101001, 0x34], .adcImm 0x34), ([0b01101010], .rorAcc), ([0b01101011], .undoc6B),
      ([0b01101100, 0x34, 0x12], .jmpInd 0x1234), ([0b01101101, 0x34, 0x12], .adcAbs 0x1234), ([0b01101110, 0x34, 0x12], .rorAbs 0x1234), ([0b01101111], .undoc6F)] : List (List Byte × Instr)),
    decode p.1 = .ok (p.2, []) := by decide

/-- Opcodes `$70` to `$7F`: R140's rows with operand bytes `$34 $12`, R151's bytes for the rest. -/
theorem test_decode_row_7 : ∀ p ∈ ([([0b01110000, 0x34], .bvs 0x34), ([0b01110001, 0x34], .adcIndy 0x34), ([0b01110010], .undoc72), ([0b01110011], .undoc73),
      ([0b01110100], .undoc74), ([0b01110101, 0x34], .adcZpx 0x34), ([0b01110110, 0x34], .rorZpx 0x34), ([0b01110111], .undoc77),
      ([0b01111000], .sei), ([0b01111001, 0x34, 0x12], .adcAbsy 0x1234), ([0b01111010], .undoc7A), ([0b01111011], .undoc7B),
      ([0b01111100], .undoc7C), ([0b01111101, 0x34, 0x12], .adcAbsx 0x1234), ([0b01111110, 0x34, 0x12], .rorAbsx 0x1234), ([0b01111111], .undoc7F)] : List (List Byte × Instr)),
    decode p.1 = .ok (p.2, []) := by decide

/-- Opcodes `$80` to `$8F`: R140's rows with operand bytes `$34 $12`, R151's bytes for the rest. -/
theorem test_decode_row_8 : ∀ p ∈ ([([0b10000000], .undoc80), ([0b10000001, 0x34], .staIndx 0x34), ([0b10000010], .undoc82), ([0b10000011], .undoc83),
      ([0b10000100, 0x34], .styZp 0x34), ([0b10000101, 0x34], .staZp 0x34), ([0b10000110, 0x34], .stxZp 0x34), ([0b10000111], .undoc87),
      ([0b10001000], .dey), ([0b10001001], .undoc89), ([0b10001010], .txa), ([0b10001011], .undoc8B),
      ([0b10001100, 0x34, 0x12], .styAbs 0x1234), ([0b10001101, 0x34, 0x12], .staAbs 0x1234), ([0b10001110, 0x34, 0x12], .stxAbs 0x1234), ([0b10001111], .undoc8F)] : List (List Byte × Instr)),
    decode p.1 = .ok (p.2, []) := by decide

/-- Opcodes `$90` to `$9F`: R140's rows with operand bytes `$34 $12`, R151's bytes for the rest. -/
theorem test_decode_row_9 : ∀ p ∈ ([([0b10010000, 0x34], .bcc 0x34), ([0b10010001, 0x34], .staIndy 0x34), ([0b10010010], .undoc92), ([0b10010011], .undoc93),
      ([0b10010100, 0x34], .styZpx 0x34), ([0b10010101, 0x34], .staZpx 0x34), ([0b10010110, 0x34], .stxZpy 0x34), ([0b10010111], .undoc97),
      ([0b10011000], .tya), ([0b10011001, 0x34, 0x12], .staAbsy 0x1234), ([0b10011010], .txs), ([0b10011011], .undoc9B),
      ([0b10011100], .undoc9C), ([0b10011101, 0x34, 0x12], .staAbsx 0x1234), ([0b10011110], .undoc9E), ([0b10011111], .undoc9F)] : List (List Byte × Instr)),
    decode p.1 = .ok (p.2, []) := by decide

/-- Opcodes `$A0` to `$AF`: R140's rows with operand bytes `$34 $12`, R151's bytes for the rest. -/
theorem test_decode_row_A : ∀ p ∈ ([([0b10100000, 0x34], .ldyImm 0x34), ([0b10100001, 0x34], .ldaIndx 0x34), ([0b10100010, 0x34], .ldxImm 0x34), ([0b10100011], .undocA3),
      ([0b10100100, 0x34], .ldyZp 0x34), ([0b10100101, 0x34], .ldaZp 0x34), ([0b10100110, 0x34], .ldxZp 0x34), ([0b10100111], .undocA7),
      ([0b10101000], .tay), ([0b10101001, 0x34], .ldaImm 0x34), ([0b10101010], .tax), ([0b10101011], .undocAB),
      ([0b10101100, 0x34, 0x12], .ldyAbs 0x1234), ([0b10101101, 0x34, 0x12], .ldaAbs 0x1234), ([0b10101110, 0x34, 0x12], .ldxAbs 0x1234), ([0b10101111], .undocAF)] : List (List Byte × Instr)),
    decode p.1 = .ok (p.2, []) := by decide

/-- Opcodes `$B0` to `$BF`: R140's rows with operand bytes `$34 $12`, R151's bytes for the rest. -/
theorem test_decode_row_B : ∀ p ∈ ([([0b10110000, 0x34], .bcs 0x34), ([0b10110001, 0x34], .ldaIndy 0x34), ([0b10110010], .undocB2), ([0b10110011], .undocB3),
      ([0b10110100, 0x34], .ldyZpx 0x34), ([0b10110101, 0x34], .ldaZpx 0x34), ([0b10110110, 0x34], .ldxZpy 0x34), ([0b10110111], .undocB7),
      ([0b10111000], .clv), ([0b10111001, 0x34, 0x12], .ldaAbsy 0x1234), ([0b10111010], .tsx), ([0b10111011], .undocBB),
      ([0b10111100, 0x34, 0x12], .ldyAbsx 0x1234), ([0b10111101, 0x34, 0x12], .ldaAbsx 0x1234), ([0b10111110, 0x34, 0x12], .ldxAbsy 0x1234), ([0b10111111], .undocBF)] : List (List Byte × Instr)),
    decode p.1 = .ok (p.2, []) := by decide

/-- Opcodes `$C0` to `$CF`: R140's rows with operand bytes `$34 $12`, R151's bytes for the rest. -/
theorem test_decode_row_C : ∀ p ∈ ([([0b11000000, 0x34], .cpyImm 0x34), ([0b11000001, 0x34], .cmpIndx 0x34), ([0b11000010], .undocC2), ([0b11000011], .undocC3),
      ([0b11000100, 0x34], .cpyZp 0x34), ([0b11000101, 0x34], .cmpZp 0x34), ([0b11000110, 0x34], .decZp 0x34), ([0b11000111], .undocC7),
      ([0b11001000], .iny), ([0b11001001, 0x34], .cmpImm 0x34), ([0b11001010], .dex), ([0b11001011], .undocCB),
      ([0b11001100, 0x34, 0x12], .cpyAbs 0x1234), ([0b11001101, 0x34, 0x12], .cmpAbs 0x1234), ([0b11001110, 0x34, 0x12], .decAbs 0x1234), ([0b11001111], .undocCF)] : List (List Byte × Instr)),
    decode p.1 = .ok (p.2, []) := by decide

/-- Opcodes `$D0` to `$DF`: R140's rows with operand bytes `$34 $12`, R151's bytes for the rest. -/
theorem test_decode_row_D : ∀ p ∈ ([([0b11010000, 0x34], .bne 0x34), ([0b11010001, 0x34], .cmpIndy 0x34), ([0b11010010], .undocD2), ([0b11010011], .undocD3),
      ([0b11010100], .undocD4), ([0b11010101, 0x34], .cmpZpx 0x34), ([0b11010110, 0x34], .decZpx 0x34), ([0b11010111], .undocD7),
      ([0b11011000], .cld), ([0b11011001, 0x34, 0x12], .cmpAbsy 0x1234), ([0b11011010], .undocDA), ([0b11011011], .undocDB),
      ([0b11011100], .undocDC), ([0b11011101, 0x34, 0x12], .cmpAbsx 0x1234), ([0b11011110, 0x34, 0x12], .decAbsx 0x1234), ([0b11011111], .undocDF)] : List (List Byte × Instr)),
    decode p.1 = .ok (p.2, []) := by decide

/-- Opcodes `$E0` to `$EF`: R140's rows with operand bytes `$34 $12`, R151's bytes for the rest. -/
theorem test_decode_row_E : ∀ p ∈ ([([0b11100000, 0x34], .cpxImm 0x34), ([0b11100001, 0x34], .sbcIndx 0x34), ([0b11100010], .undocE2), ([0b11100011], .undocE3),
      ([0b11100100, 0x34], .cpxZp 0x34), ([0b11100101, 0x34], .sbcZp 0x34), ([0b11100110, 0x34], .incZp 0x34), ([0b11100111], .undocE7),
      ([0b11101000], .inx), ([0b11101001, 0x34], .sbcImm 0x34), ([0b11101010], .nop), ([0b11101011], .undocEB),
      ([0b11101100, 0x34, 0x12], .cpxAbs 0x1234), ([0b11101101, 0x34, 0x12], .sbcAbs 0x1234), ([0b11101110, 0x34, 0x12], .incAbs 0x1234), ([0b11101111], .undocEF)] : List (List Byte × Instr)),
    decode p.1 = .ok (p.2, []) := by decide

/-- Opcodes `$F0` to `$FF`: R140's rows with operand bytes `$34 $12`, R151's bytes for the rest. -/
theorem test_decode_row_F : ∀ p ∈ ([([0b11110000, 0x34], .beq 0x34), ([0b11110001, 0x34], .sbcIndy 0x34), ([0b11110010], .undocF2), ([0b11110011], .undocF3),
      ([0b11110100], .undocF4), ([0b11110101, 0x34], .sbcZpx 0x34), ([0b11110110, 0x34], .incZpx 0x34), ([0b11110111], .undocF7),
      ([0b11111000], .sed), ([0b11111001, 0x34, 0x12], .sbcAbsy 0x1234), ([0b11111010], .undocFA), ([0b11111011], .undocFB),
      ([0b11111100], .undocFC), ([0b11111101, 0x34, 0x12], .sbcAbsx 0x1234), ([0b11111110, 0x34, 0x12], .incAbsx 0x1234), ([0b11111111], .undocFF)] : List (List Byte × Instr)),
    decode p.1 = .ok (p.2, []) := by decide

/-- R140, R73: `AD 84 02` is `LDA $0284`, the low byte first. -/
theorem test_decode_lda_abs : decode [0b10101101, 0b10000100, 0b00000010] = .ok (.ldaAbs 0x0284, []) := by decide
theorem test_decode_too_short : decode [0xAD, 0x84] = .error (.missingOperand 0xAD) := by decide
/-- The word of `AD 84 02` as the table numbers bits. -/
theorem test_decodeTableWord : decodeTableWord 24 0x0284AD = some (.ldaAbs 0x0284) := by decide

/-! ### Instructions (T11 to T18) -/

set_option maxRecDepth 100000 in
/-- T11: `A1 80`. -/
theorem test_lda_indx :
    outcome (bench 0xF000 [0xA1, 0x80] (fun c => { c with x := 0x04 }) [(0x04, 0x90), (0x10, 0xC3)]) =
      (⟨0xC3, 0x04, 0x00, 0xFD, 0xF002, true, false, false, false, false, false, false⟩, [(0x04, 0x90), (0x10, 0xC3)], 6) := by
  decide

set_option maxRecDepth 100000 in
/-- T11: `B9 FF F0`. -/
theorem test_lda_absy_crosses :
    outcome (romEdit 0xF100 0x5A (bench 0xF000 [0xB9, 0xFF, 0xF0] (fun c => { c with y := 0x01 }) [])) =
      (⟨0x5A, 0x00, 0x01, 0xFD, 0xF003, false, false, false, false, false, false, false⟩, [], 5) := by
  decide

set_option maxRecDepth 100000 in
/-- T11: `B5 F0`. -/
theorem test_lda_zpx_wraps :
    outcome (bench 0xF000 [0xB5, 0xF0] (fun c => { c with x := 0x20 }) []) =
      (⟨0x00, 0x20, 0x00, 0xFD, 0xF002, false, false, false, false, false, true, false⟩, [], 4) := by
  decide

set_option maxRecDepth 100000 in
/-- T11: `B1 80`. -/
theorem test_lda_indy :
    outcome (bench 0xF000 [0xB1, 0x80] (fun c => { c with y := 0x10 }) [(0x00, 0x85), (0x15, 0x77)]) =
      (⟨0x77, 0x00, 0x10, 0xFD, 0xF002, false, false, false, false, false, false, false⟩, [(0x00, 0x85), (0x15, 0x77)], 5) := by
  decide

set_option maxRecDepth 100000 in
/-- T11: `B6 80`. -/
theorem test_ldx_zpy :
    outcome (bench 0xF000 [0xB6, 0x80] (fun c => { c with y := 0x02 }) [(0x02, 0x01)]) =
      (⟨0x00, 0x01, 0x02, 0xFD, 0xF002, false, false, false, false, false, false, false⟩, [(0x02, 0x01)], 4) := by
  decide

set_option maxRecDepth 100000 in
/-- T11: `BC 80 00`. -/
theorem test_ldy_absx :
    outcome (bench 0xF000 [0xBC, 0x80, 0x00] (fun c => { c with x := 0x03 }) [(0x03, 0xEE)]) =
      (⟨0x00, 0x03, 0xEE, 0xFD, 0xF003, true, false, false, false, false, false, false⟩, [(0x03, 0xEE)], 4) := by
  decide

set_option maxRecDepth 100000 in
/-- T11: `99 F0 00`. -/
theorem test_sta_absy :
    outcome (bench 0xF000 [0x99, 0xF0, 0x00] (fun c => { c with a := 0x22, y := 0x90 }) []) =
      (⟨0x22, 0x00, 0x90, 0xFD, 0xF003, false, false, false, false, false, false, false⟩, [(0x00, 0x22)], 5) := by
  decide

set_option maxRecDepth 100000 in
/-- T11: `91 80`. -/
theorem test_sta_indy :
    outcome (bench 0xF000 [0x91, 0x80] (fun c => { c with a := 0x77, y := 0x03 }) [(0x00, 0xB0)]) =
      (⟨0x77, 0x00, 0x03, 0xFD, 0xF002, false, false, false, false, false, false, false⟩, [(0x00, 0xB0), (0x33, 0x77)], 6) := by
  decide

set_option maxRecDepth 100000 in
/-- T11: `81 80`. -/
theorem test_sta_indx :
    outcome (bench 0xF000 [0x81, 0x80] (fun c => { c with a := 0x9A, x := 0x02 }) [(0x02, 0xA0)]) =
      (⟨0x9A, 0x02, 0x00, 0xFD, 0xF002, false, false, false, false, false, false, false⟩, [(0x02, 0xA0), (0x20, 0x9A)], 6) := by
  decide

set_option maxRecDepth 100000 in
/-- T11: `96 80`. -/
theorem test_stx_zpy :
    outcome (bench 0xF000 [0x96, 0x80] (fun c => { c with x := 0x0F, y := 0x01 }) []) =
      (⟨0x00, 0x0F, 0x01, 0xFD, 0xF002, false, false, false, false, false, false, false⟩, [(0x01, 0x0F)], 4) := by
  decide

set_option maxRecDepth 100000 in
/-- T11: `8C FF 00`. -/
theorem test_sty_abs :
    outcome (bench 0xF000 [0x8C, 0xFF, 0x00] (fun c => { c with y := 0x42 }) []) =
      (⟨0x00, 0x00, 0x42, 0xFD, 0xF003, false, false, false, false, false, false, false⟩, [(0x7F, 0x42)], 4) := by
  decide

set_option maxRecDepth 100000 in
/-- T12: `AA`. -/
theorem test_tax :
    outcome (bench 0xF000 [0xAA] (fun c => { c with a := 0x80 }) []) =
      (⟨0x80, 0x80, 0x00, 0xFD, 0xF001, true, false, false, false, false, false, false⟩, [], 2) := by
  decide

set_option maxRecDepth 100000 in
/-- T12: `A8`. -/
theorem test_tay :
    outcome (bench 0xF000 [0xA8] (fun c => { c with a := 0x00, y := 0x05 }) []) =
      (⟨0x00, 0x00, 0x00, 0xFD, 0xF001, false, false, false, false, false, true, false⟩, [], 2) := by
  decide

set_option maxRecDepth 100000 in
/-- T12: `8A`. -/
theorem test_txa :
    outcome (bench 0xF000 [0x8A] (fun c => { c with x := 0x7F }) []) =
      (⟨0x7F, 0x7F, 0x00, 0xFD, 0xF001, false, false, false, false, false, false, false⟩, [], 2) := by
  decide

set_option maxRecDepth 100000 in
/-- T12: `98`. -/
theorem test_tya :
    outcome (bench 0xF000 [0x98] (fun c => { c with y := 0xFF }) []) =
      (⟨0xFF, 0x00, 0xFF, 0xFD, 0xF001, true, false, false, false, false, false, false⟩, [], 2) := by
  decide

set_option maxRecDepth 100000 in
/-- T12: `BA`. -/
theorem test_tsx :
    outcome (bench 0xF000 [0xBA] (fun c => { c with s := 0x00, x := 0x03 }) []) =
      (⟨0x00, 0x00, 0x00, 0x00, 0xF001, false, false, false, false, false, true, false⟩, [], 2) := by
  decide

set_option maxRecDepth 100000 in
/-- T12: `9A`. -/
theorem test_txs :
    outcome (bench 0xF000 [0x9A] (fun c => { c with x := 0x80, s := 0xFF, z := true }) []) =
      (⟨0x00, 0x80, 0x00, 0x80, 0xF001, false, false, false, false, false, true, false⟩, [], 2) := by
  decide

set_option maxRecDepth 100000 in
/-- T12: `48`. -/
theorem test_pha :
    outcome (bench 0xF000 [0x48] (fun c => { c with a := 0x01, s := 0x80 }) []) =
      (⟨0x01, 0x00, 0x00, 0x7F, 0xF001, false, false, false, false, false, false, false⟩, [(0x00, 0x01)], 3) := by
  decide

set_option maxRecDepth 100000 in
/-- T12: `08`. -/
theorem test_php :
    outcome (bench 0xF000 [0x08] (fun c => { c with s := 0xFF, n := true, c := true, d := true }) []) =
      (⟨0x00, 0x00, 0x00, 0xFE, 0xF001, true, false, false, true, false, false, true⟩, [(0x7F, 0xB9)], 3) := by
  decide

set_option maxRecDepth 100000 in
/-- T12: `68`. -/
theorem test_pla :
    outcome (bench 0xF000 [0x68] (fun c => { c with s := 0xFE, a := 0x09 }) []) =
      (⟨0x00, 0x00, 0x00, 0xFF, 0xF001, false, false, false, false, false, true, false⟩, [], 4) := by
  decide

set_option maxRecDepth 100000 in
/-- T12: `28`. -/
theorem test_plp :
    outcome (bench 0xF000 [0x28] (fun c => { c with s := 0xFE }) [(0x7F, 0xFF)]) =
      (⟨0x00, 0x00, 0x00, 0xFF, 0xF001, true, true, true, true, true, true, true⟩, [(0x7F, 0xFF)], 4) := by
  decide

set_option maxRecDepth 100000 in
/-- T13: `69 80`. -/
theorem test_adc_overflow :
    outcome (bench 0xF000 [0x69, 0x80] (fun c => { c with a := 0x80 }) []) =
      (⟨0x00, 0x00, 0x00, 0xFD, 0xF002, false, true, false, false, false, true, true⟩, [], 2) := by
  decide

set_option maxRecDepth 100000 in
/-- T14: `69 46`. -/
theorem test_adc_decimal :
    outcome (bench 0xF000 [0x69, 0x46] (fun c => { c with a := 0x58, c := true, d := true }) []) =
      (⟨0x05, 0x00, 0x00, 0xFD, 0xF002, true, true, false, true, false, false, true⟩, [], 2) := by
  decide

set_option maxRecDepth 100000 in
/-- T13: `E9 01`. -/
theorem test_sbc_overflow :
    outcome (bench 0xF000 [0xE9, 0x01] (fun c => { c with a := 0x80, c := true }) []) =
      (⟨0x7F, 0x00, 0x00, 0xFD, 0xF002, false, true, false, false, false, false, true⟩, [], 2) := by
  decide

set_option maxRecDepth 100000 in
/-- T14: `E9 21`. -/
theorem test_sbc_decimal :
    outcome (bench 0xF000 [0xE9, 0x21] (fun c => { c with a := 0x12, c := true, d := true }) []) =
      (⟨0x91, 0x00, 0x00, 0xFD, 0xF002, true, false, false, true, false, false, false⟩, [], 2) := by
  decide

set_option maxRecDepth 100000 in
/-- T13: `C9 80`. -/
theorem test_cmp :
    outcome (bench 0xF000 [0xC9, 0x80] (fun c => { c with a := 0x00 }) []) =
      (⟨0x00, 0x00, 0x00, 0xFD, 0xF002, true, false, false, false, false, false, false⟩, [], 2) := by
  decide

set_option maxRecDepth 100000 in
/-- T13: `E4 80`. -/
theorem test_cpx_zp :
    outcome (bench 0xF000 [0xE4, 0x80] (fun c => { c with x := 0x04 }) [(0x00, 0x05)]) =
      (⟨0x00, 0x04, 0x00, 0xFD, 0xF002, true, false, false, false, false, false, false⟩, [(0x00, 0x05)], 3) := by
  decide

set_option maxRecDepth 100000 in
/-- T13: `CC 80 00`. -/
theorem test_cpy_abs :
    outcome (bench 0xF000 [0xCC, 0x80, 0x00] (fun c => { c with y := 0x00 }) [(0x00, 0x01)]) =
      (⟨0x00, 0x00, 0x00, 0xFD, 0xF003, true, false, false, false, false, false, false⟩, [(0x00, 0x01)], 4) := by
  decide

set_option maxRecDepth 100000 in
/-- T15: `31 80`. -/
theorem test_and_indy :
    outcome (bench 0xF000 [0x31, 0x80] (fun c => { c with a := 0xFF, y := 0x01 }) [(0x00, 0x90), (0x11, 0x3C)]) =
      (⟨0x3C, 0x00, 0x01, 0xFD, 0xF002, false, false, false, false, false, false, false⟩, [(0x00, 0x90), (0x11, 0x3C)], 5) := by
  decide

set_option maxRecDepth 100000 in
/-- T15: `09 81`. -/
theorem test_ora :
    outcome (bench 0xF000 [0x09, 0x81] (fun c => { c with a := 0x10 }) []) =
      (⟨0x91, 0x00, 0x00, 0xFD, 0xF002, true, false, false, false, false, false, false⟩, [], 2) := by
  decide

set_option maxRecDepth 100000 in
/-- T15: `49 FF`. -/
theorem test_eor :
    outcome (bench 0xF000 [0x49, 0xFF] (fun c => { c with a := 0x55 }) []) =
      (⟨0xAA, 0x00, 0x00, 0xFD, 0xF002, true, false, false, false, false, false, false⟩, [], 2) := by
  decide

set_option maxRecDepth 100000 in
/-- T15: `24 80`. -/
theorem test_bit_zp :
    outcome (bench 0xF000 [0x24, 0x80] (fun c => { c with a := 0xC0 }) [(0x00, 0xC1)]) =
      (⟨0xC0, 0x00, 0x00, 0xFD, 0xF002, true, true, false, false, false, false, false⟩, [(0x00, 0xC1)], 3) := by
  decide

set_option maxRecDepth 100000 in
/-- T15: `2C 80 00`. -/
theorem test_bit_abs :
    outcome (bench 0xF000 [0x2C, 0x80, 0x00] (fun c => { c with a := 0xFF, n := true, v := true }) []) =
      (⟨0xFF, 0x00, 0x00, 0xFD, 0xF003, false, false, false, false, false, true, false⟩, [], 4) := by
  decide

set_option maxRecDepth 100000 in
/-- T16: `0A`. -/
theorem test_asl_acc :
    outcome (bench 0xF000 [0x0A] (fun c => { c with a := 0x80 }) []) =
      (⟨0x00, 0x00, 0x00, 0xFD, 0xF001, false, false, false, false, false, true, true⟩, [], 2) := by
  decide

set_option maxRecDepth 100000 in
/-- T16: `06 80`. -/
theorem test_asl_zp :
    outcome (bench 0xF000 [0x06, 0x80] (fun c => c) [(0x00, 0xC0)]) =
      (⟨0x00, 0x00, 0x00, 0xFD, 0xF002, true, false, false, false, false, false, true⟩, [(0x00, 0x80)], 5) := by
  decide

set_option maxRecDepth 100000 in
/-- T16: `4A`. -/
theorem test_lsr_acc :
    outcome (bench 0xF000 [0x4A] (fun c => { c with a := 0x01 }) []) =
      (⟨0x00, 0x00, 0x00, 0xFD, 0xF001, false, false, false, false, false, true, true⟩, [], 2) := by
  decide

set_option maxRecDepth 100000 in
/-- T16: `5E 7F 00`. -/
theorem test_lsr_absx :
    outcome (bench 0xF000 [0x5E, 0x7F, 0x00] (fun c => { c with x := 0x01 }) [(0x00, 0x03)]) =
      (⟨0x00, 0x01, 0x00, 0xFD, 0xF003, false, false, false, false, false, false, true⟩, [(0x00, 0x01)], 7) := by
  decide

set_option maxRecDepth 100000 in
/-- T16: `2A`. -/
theorem test_rol_acc :
    outcome (bench 0xF000 [0x2A] (fun c => { c with a := 0x40, c := true }) []) =
      (⟨0x81, 0x00, 0x00, 0xFD, 0xF001, true, false, false, false, false, false, false⟩, [], 2) := by
  decide

set_option maxRecDepth 100000 in
/-- T16: `36 80`. -/
theorem test_rol_zpx :
    outcome (bench 0xF000 [0x36, 0x80] (fun c => { c with x := 0x01, c := true }) [(0x01, 0x7F)]) =
      (⟨0x00, 0x01, 0x00, 0xFD, 0xF002, true, false, false, false, false, false, false⟩, [(0x01, 0xFF)], 6) := by
  decide

set_option maxRecDepth 100000 in
/-- T16: `6A`. -/
theorem test_ror_acc :
    outcome (bench 0xF000 [0x6A] (fun c => { c with a := 0x00, c := true }) []) =
      (⟨0x80, 0x00, 0x00, 0xFD, 0xF001, true, false, false, false, false, false, false⟩, [], 2) := by
  decide

set_option maxRecDepth 100000 in
/-- T16: `6E 80 00`. -/
theorem test_ror_abs :
    outcome (bench 0xF000 [0x6E, 0x80, 0x00] (fun c => { c with c := true }) [(0x00, 0x02)]) =
      (⟨0x00, 0x00, 0x00, 0xFD, 0xF003, true, false, false, false, false, false, false⟩, [(0x00, 0x81)], 6) := by
  decide

set_option maxRecDepth 100000 in
/-- T16: `E6 80`. -/
theorem test_inc_zp :
    outcome (bench 0xF000 [0xE6, 0x80] (fun c => { c with c := true }) [(0x00, 0xFF)]) =
      (⟨0x00, 0x00, 0x00, 0xFD, 0xF002, false, false, false, false, false, true, true⟩, [], 5) := by
  decide

set_option maxRecDepth 100000 in
/-- T16: `DE F0 00`. -/
theorem test_dec_absx :
    outcome (bench 0xF000 [0xDE, 0xF0, 0x00] (fun c => { c with x := 0x90 }) [(0x00, 0x01)]) =
      (⟨0x00, 0x90, 0x00, 0xFD, 0xF003, false, false, false, false, false, true, false⟩, [], 7) := by
  decide

set_option maxRecDepth 100000 in
/-- T16: `E8`. -/
theorem test_inx :
    outcome (bench 0xF000 [0xE8] (fun c => { c with x := 0xFF }) []) =
      (⟨0x00, 0x00, 0x00, 0xFD, 0xF001, false, false, false, false, false, true, false⟩, [], 2) := by
  decide

set_option maxRecDepth 100000 in
/-- T16: `C8`. -/
theorem test_iny :
    outcome (bench 0xF000 [0xC8] (fun c => { c with y := 0x7F }) []) =
      (⟨0x00, 0x00, 0x80, 0xFD, 0xF001, true, false, false, false, false, false, false⟩, [], 2) := by
  decide

set_option maxRecDepth 100000 in
/-- T16: `CA`. -/
theorem test_dex :
    outcome (bench 0xF000 [0xCA] (fun c => { c with x := 0x00 }) []) =
      (⟨0x00, 0xFF, 0x00, 0xFD, 0xF001, true, false, false, false, false, false, false⟩, [], 2) := by
  decide

set_option maxRecDepth 100000 in
/-- T16: `88`. -/
theorem test_dey :
    outcome (bench 0xF000 [0x88] (fun c => { c with y := 0x01 }) []) =
      (⟨0x00, 0x00, 0x00, 0xFD, 0xF001, false, false, false, false, false, true, false⟩, [], 2) := by
  decide

set_option maxRecDepth 100000 in
/-- T17: `10 FE`. -/
theorem test_bpl :
    outcome (bench 0xF020 [0x10, 0xFE] (fun c => c) []) =
      (⟨0x00, 0x00, 0x00, 0xFD, 0xF020, false, false, false, false, false, false, false⟩, [], 3) := by
  decide

set_option maxRecDepth 100000 in
/-- T17: `30 00`. -/
theorem test_bmi :
    outcome (bench 0xF020 [0x30, 0x00] (fun c => { c with n := true }) []) =
      (⟨0x00, 0x00, 0x00, 0xFD, 0xF022, true, false, false, false, false, false, false⟩, [], 3) := by
  decide

set_option maxRecDepth 100000 in
/-- T17: `50 7F`. -/
theorem test_bvc :
    outcome (bench 0xF080 [0x50, 0x7F] (fun c => c) []) =
      (⟨0x00, 0x00, 0x00, 0xFD, 0xF101, false, false, false, false, false, false, false⟩, [], 4) := by
  decide

set_option maxRecDepth 100000 in
/-- T17: `70 10`. -/
theorem test_bvs_not_taken :
    outcome (bench 0xF010 [0x70, 0x10] (fun c => c) []) =
      (⟨0x00, 0x00, 0x00, 0xFD, 0xF012, false, false, false, false, false, false, false⟩, [], 2) := by
  decide

set_option maxRecDepth 100000 in
/-- T17: `90 80`. -/
theorem test_bcc :
    outcome (bench 0xF100 [0x90, 0x80] (fun c => { c with c := false }) []) =
      (⟨0x00, 0x00, 0x00, 0xFD, 0xF082, false, false, false, false, false, false, false⟩, [], 4) := by
  decide

set_option maxRecDepth 100000 in
/-- T17: `B0 7F`. -/
theorem test_bcs :
    outcome (bench 0xF010 [0xB0, 0x7F] (fun c => { c with c := true }) []) =
      (⟨0x00, 0x00, 0x00, 0xFD, 0xF091, false, false, false, false, false, false, true⟩, [], 3) := by
  decide

set_option maxRecDepth 100000 in
/-- T17: `D0 FD`. -/
theorem test_bne :
    outcome (bench 0xF005 [0xD0, 0xFD] (fun c => { c with z := false }) []) =
      (⟨0x00, 0x00, 0x00, 0xFD, 0xF004, false, false, false, false, false, false, false⟩, [], 3) := by
  decide

set_option maxRecDepth 100000 in
/-- T17: `F0 02`. -/
theorem test_beq_crosses :
    outcome (bench 0xF0FC [0xF0, 0x02] (fun c => { c with z := true }) []) =
      (⟨0x00, 0x00, 0x00, 0xFD, 0xF100, false, false, false, false, false, true, false⟩, [], 4) := by
  decide

set_option maxRecDepth 100000 in
/-- T17: `4C 34 F2`. -/
theorem test_jmp_abs :
    outcome (bench 0xF000 [0x4C, 0x34, 0xF2] (fun c => c) []) =
      (⟨0x00, 0x00, 0x00, 0xFD, 0xF234, false, false, false, false, false, false, false⟩, [], 3) := by
  decide

set_option maxRecDepth 100000 in
/-- T17: `6C FF F1`. -/
theorem test_jmp_ind_wraps :
    outcome (romEdit 0xF200 0x56 (romEdit 0xF1FF 0x34 (romEdit 0xF100 0x12 (bench 0xF000 [0x6C, 0xFF, 0xF1] (fun c => c) [])))) =
      (⟨0x00, 0x00, 0x00, 0xFD, 0x1234, false, false, false, false, false, false, false⟩, [], 5) := by
  decide

set_option maxRecDepth 100000 in
/-- T17: `20 00 F2`. -/
theorem test_jsr :
    outcome (bench 0xF010 [0x20, 0x00, 0xF2] (fun c => { c with s := 0xFF }) []) =
      (⟨0x00, 0x00, 0x00, 0xFD, 0xF200, false, false, false, false, false, false, false⟩, [(0x7E, 0x12), (0x7F, 0xF0)], 6) := by
  decide

set_option maxRecDepth 100000 in
/-- T17: `60`. -/
theorem test_rts_wraps :
    outcome (bench 0xF000 [0x60] (fun c => { c with s := 0xFD }) [(0x7E, 0xFF), (0x7F, 0xFF)]) =
      (⟨0x00, 0x00, 0x00, 0xFF, 0x0000, false, false, false, false, false, false, false⟩, [(0x7E, 0xFF), (0x7F, 0xFF)], 6) := by
  decide

set_option maxRecDepth 100000 in
/-- T18: `18`. -/
theorem test_clc :
    outcome (bench 0xF000 [0x18] (fun c => { c with c := true }) []) =
      (⟨0x00, 0x00, 0x00, 0xFD, 0xF001, false, false, false, false, false, false, false⟩, [], 2) := by
  decide

set_option maxRecDepth 100000 in
/-- T18: `38`. -/
theorem test_sec :
    outcome (bench 0xF000 [0x38] (fun c => c) []) =
      (⟨0x00, 0x00, 0x00, 0xFD, 0xF001, false, false, false, false, false, false, true⟩, [], 2) := by
  decide

set_option maxRecDepth 100000 in
/-- T18: `58`. -/
theorem test_cli :
    outcome (bench 0xF000 [0x58] (fun c => { c with i := true }) []) =
      (⟨0x00, 0x00, 0x00, 0xFD, 0xF001, false, false, false, false, false, false, false⟩, [], 2) := by
  decide

set_option maxRecDepth 100000 in
/-- T18: `78`. -/
theorem test_sei :
    outcome (bench 0xF000 [0x78] (fun c => c) []) =
      (⟨0x00, 0x00, 0x00, 0xFD, 0xF001, false, false, false, false, true, false, false⟩, [], 2) := by
  decide

set_option maxRecDepth 100000 in
/-- T18: `D8`. -/
theorem test_cld :
    outcome (bench 0xF000 [0xD8] (fun c => { c with d := true }) []) =
      (⟨0x00, 0x00, 0x00, 0xFD, 0xF001, false, false, false, false, false, false, false⟩, [], 2) := by
  decide

set_option maxRecDepth 100000 in
/-- T18: `F8`. -/
theorem test_sed :
    outcome (bench 0xF000 [0xF8] (fun c => c) []) =
      (⟨0x00, 0x00, 0x00, 0xFD, 0xF001, false, false, false, true, false, false, false⟩, [], 2) := by
  decide

set_option maxRecDepth 100000 in
/-- T18: `B8`. -/
theorem test_clv :
    outcome (bench 0xF000 [0xB8] (fun c => { c with v := true }) []) =
      (⟨0x00, 0x00, 0x00, 0xFD, 0xF001, false, false, false, false, false, false, false⟩, [], 2) := by
  decide

set_option maxRecDepth 100000 in
/-- T18: `EA`. -/
theorem test_nop :
    outcome (bench 0xF000 [0xEA] (fun c => c) []) =
      (⟨0x00, 0x00, 0x00, 0xFD, 0xF001, false, false, false, false, false, false, false⟩, [], 2) := by
  decide

set_option maxRecDepth 100000 in
/-- T18: `00 EA`. -/
theorem test_brk :
    outcome (romEdit 0xFFFF 0xF3 (bench 0xF100 [0x00, 0xEA] (fun c => { c with s := 0xFF, z := true, c := true }) [])) =
      (⟨0x00, 0x00, 0x00, 0xFC, 0xF300, false, false, true, false, true, true, true⟩, [(0x7D, 0x33), (0x7E, 0x02), (0x7F, 0xF1)], 7) := by
  decide

set_option maxRecDepth 100000 in
/-- T18: `40`. -/
theorem test_rti :
    outcome (bench 0xF000 [0x40] (fun c => { c with s := 0xFC }) [(0x7D, 0xCF), (0x7F, 0x10)]) =
      (⟨0x00, 0x00, 0x00, 0xFF, 0x1000, true, true, false, true, true, true, true⟩, [(0x7D, 0xCF), (0x7F, 0x10)], 6) := by
  decide


/-! ### Undocumented opcodes (T19, R153) -/

/-- The machine after reset under `UNIMPL_POLICY = skip`. -/
def skipping (s : State) : State := { s with cfg := { s.cfg with unimplPolicy := .skip } }

set_option maxRecDepth 100000 in
/-- T19: one call, PC past the opcode, nothing pushed. -/
theorem test_undoc_fatal :
    outcome (bench 0xF000 [0x02] (fun c => c) []) =
      (⟨0x00, 0x00, 0x00, 0xFD, 0xF001, false, false, false, false, false, false, false⟩, [], 1) := by decide

set_option maxRecDepth 100000 in
/-- T19: the record. -/
theorem test_undoc_record : (stepped (bench 0xF000 [0xFF] (fun c => c) [])).cpuFault = some ⟨0xF000, 0xFF⟩ := by decide

set_option maxRecDepth 100000 in
/-- R153: 2 cycles under `skip`, the fault still recorded. -/
theorem test_undoc_skip :
    let s := skipping (bench 0xF000 [0x80] (fun c => c) [])
    (outcome s).2.2 = 2 ∧ (outcome s).1.pc = 0xF001 ∧ (stepped s).cpuFault = some ⟨0xF000, 0x80⟩ := by decide

/-! ### The Bus (T20) -/

theorem test_bus_tia : ([0x0000, 0x0002, 0x003F, 0x0040, 0x007F, 0x0100] : List Word).map busTarget =
    [.tia, .tia, .tia, .tia, .tia, .tia] := by decide
theorem test_bus_ram : ([0x0080, 0x00FF, 0x0180, 0x01FF, 0x0480, 0x2080] : List Word).map busTarget =
    [.ram 0, .ram 127, .ram 0, .ram 127, .ram 0, .ram 0] := by decide
theorem test_bus_riot : ([0x0280, 0x0284, 0x0297, 0x029C, 0x0680, 0xE284] : List Word).map busTarget =
    [.riot, .riot, .riot, .riot, .riot, .riot] := by decide
theorem test_bus_cart : ([0x1000, 0x1FFF, 0x3FFF, 0xF000, 0xFFFC] : List Word).map busTarget =
    [.cart 0, .cart 0xFFF, .cart 0xFFF, .cart 0, .cart 0xFFC] := by decide

/-! ### The timer (T21), WSYNC (T22) -/

set_option maxRecDepth 100000 in
/-- T21, ticks 1, 8, 9, 17, 18 and 74 after `TIM8T <- $02`: timer, underflow, fast. -/
theorem test_timer : ([1, 8, 9, 17, 18, 74].map fun n =>
      let r := Riot.ticks n ((Riot.powerOn 0x55).loadTimer .by8 0x02)
      (r.timer, r.underflow, r.fast)) =
    [(0x01, false, false), (0x01, false, false), (0x00, false, false), (0xFF, true, true), (0xFE, true, true),
      (0xC6, true, true)] := by decide

set_option maxRecDepth 100000 in
/-- T22, h = 222: one stalled call. `STA $02` at clock 213 writes at 222, and NOP then takes its two cycles in calls 2 and
3 after it. -/
theorem test_wsync :
    let s := bench 0xF000 [0x85, 0x02, 0xEA] (fun c => c) []
    let s := stepped (s.withTia { s.tia with hclock := 213 })
    s.tia.hclock = 222 ∧ s.tia.wsyncHalt = true ∧ (stepped s).cycleCounter = 6 ∧ (stepped s).tia.hclock = 3 := by decide

/-! ### The TIA (T23 to T26) -/

/-- T23, the position strobes. -/
theorem test_strobe : [0, 66, 69, 99, 225].map (fun h => (strobePosition h 5, strobePosition h 4)) =
    [(3, 2), (3, 2), (6, 5), (36, 35), (2, 1)] := by decide

/-- T23, HMOVE. -/
theorem test_hmove : [(10, 0x70), (10, 0x80), (0, 0xF0), (0, 0x10), (42, 0x00), (42, 0x0F)].map (fun p => moved p.1 p.2) =
    [3, 18, 1, 159, 42, 42] := by decide

/-- T24, the first bit of each register, not reflected and reflected. -/
theorem test_playfield :
    let g : Graphics := { Graphics.zero with pf0 := 0x10, pf1 := 0x80, pf2 := 0x01 }
    (List.range 160).filter (playfieldBit g 0x00) =
      [0, 1, 2, 3, 16, 17, 18, 19, 48, 49, 50, 51, 80, 81, 82, 83, 96, 97, 98, 99, 128, 129, 130, 131] ∧
    (List.range 160).filter (playfieldBit g 0x01) =
      [0, 1, 2, 3, 16, 17, 18, 19, 48, 49, 50, 51, 108, 109, 110, 111, 140, 141, 142, 143, 156, 157, 158, 159] := by
  decide

/-- The line of T25. -/
def lineT25 (ctrlpf : Byte) : Tia :=
  { Tia.powerOn with
    regs := { TiaRegs.zero with colup0 := 0x1E, colupf := 0x44, colubk := 0x02, ctrlpf := ctrlpf }
    gfx := { Graphics.zero with grp0New := 0xA5, enablNew := true, pf0 := 0x10 }
    pos := ⟨3, 0, 0, 0, 6⟩ }

/-- T25, the colours of pixels 0 to 13. -/
theorem test_colours :
    (List.range 14).map (fun x => colourOf (lineT25 0x00) x ((lineT25 0x00).objectsAt x)) =
      [0x44, 0x44, 0x44, 0x1E, 0x02, 0x1E, 0x44, 0x02, 0x1E, 0x02, 0x1E, 0x02, 0x02, 0x02] ∧
    colourOf (lineT25 0x04) 3 ((lineT25 0x04).objectsAt 3) = 0x44 := by decide

set_option maxRecDepth 100000 in
/-- T25, the latches after the tick of clock 71. -/
theorem test_collisions :
    (({ lineT25 0x00 with hclock := 71 } : Tia).tick 114).cx = { Collisions.clear with p0pf := true } := by decide

set_option maxRecDepth 100000 in
/-- R489, `FUTURE_PIXELS[GRP0] = 4`: the pattern is old until the fourth tick. -/
theorem test_delayed : ([3, 4].map fun n =>
      ((Tia.tick 114)^[n] { Tia.powerOn with hclock := 99, pending := [⟨.grp0, 0xFF, 4⟩] }).gfx.grp0New) =
    [0x00, 0xFF] := by decide

/-! ### Bank switching (T27) -/

/-- A cartridge whose ROM lists the given bytes. -/
def cartOf (tag : SchemeTag) (size : Nat) (v : Variant) (rom : Memory) : Cart := ⟨tag, size, rom, v, []⟩

/-- The bytes that reads at these addresses return in order. -/
def readsOf (as : List Word) (s : State) : List Byte :=
  match as with
  | [] => []
  | a :: t => (memRead a s).1 :: readsOf t (memRead a s).2

set_option maxRecDepth 100000 in
/-- T27, `default` with 8192 bytes. -/
theorem test_bank_8k :
    readsOf [0x1000, 0x1FF9, 0x1000, 0x1FF8, 0x1000]
      (State.reset.withCart (cartOf .default 8192 (.hot ⟨2, 0xFF8, 0xFF9, 0⟩ 0)
        [(0, 0x11), (0xFF8, 0x22), (0x1000, 0x33), (0x1FF9, 0x44)])) = [0x11, 0x44, 0x33, 0x22, 0x11] := by decide

set_option maxRecDepth 100000 in
/-- T27, `super`: write port, read port, RAM not banked, ROM beyond the ports. -/
theorem test_bank_super :
    readsOf [0x1085, 0x1FF7, 0x1085, 0x1100]
      (memWrite 0x1005 0xAB (State.reset.withCart (cartOf .super 16384 (.hot ⟨4, 0xFF6, 0xFF9, 128⟩ 0)
        [(0x1100, 0x55), (0x1FF7, 0x66)]))) = [0xAB, 0x66, 0xAB, 0x55] := by decide

set_option maxRecDepth 100000 in
/-- T27, `fe`: the JSR of the row, and the fetch that follows it from bank 1. -/
theorem test_bank_fe :
    let s := stepped ((bench 0xF010 [] (fun c => { c with s := 0xFF }) []).withCart
      (cartOf .fe 8192 (.fe false false) [(0x010, 0x20), (0x011, 0x23), (0x012, 0xD1), (0x1123, 0xEA)]))
    s.cart.variant = .fe true false ∧ s.cpu.pc = 0xD123 ∧ (fetch s).1 = .nop := by decide

set_option maxRecDepth 100000 in
/-- T27, `pb`. -/
theorem test_bank_pb :
    readsOf [0x1FE3, 0x1000, 0x1400, 0x1FFC] (State.reset.withCart (cartOf .pb 8192 (.pb 0 0 0)
      [(0, 0x10), (0x0C00, 0x20), (0x1FE3, 0x30), (0x1FFC, 0x40)])) = [0x30, 0x20, 0x10, 0x40] := by decide

set_option maxRecDepth 100000 in
/-- T27, `mnet`: both RAM windows and the fixed segment. -/
theorem test_bank_mnet :
    let s := State.reset.withCart (cartOf .mnet 16384 (.mnet 0 0) [(0, 0x10), (0x3FFC, 0x40)])
    let s := memWrite 0x1005 0x5A (memRead 0x1FE7 s).2
    let s := memWrite 0x1810 0x77 (memRead 0x1FE9 s).2
    readsOf [0x1405, 0x1910, 0x1FE8, 0x1910, 0x1FFC] s = [0x5A, 0x77, 0x00, 0x00, 0x40] := by decide

/-! ### How a program comes to run (log entry 5) -/

set_option maxRecDepth 100000 in
/-- `LDA #$80` as the table's word, placed and run right after reset. -/
theorem test_withFetchWord :
    (stepped (State.reset.withFetchWord 16 0x80A9)).cpu.a = 0x80 ∧
    (fetch (State.reset.withFetchWord 16 0x80A9)).1 = .ldaImm 0x80 := by decide

/-! ### Witnesses: the hypotheses of each statement hold together somewhere -/

theorem witness_EncodeInvertsDecode : decode [0xA9, 0x10, 0xEA] = .ok (.ldaImm 0x10, [0xEA]) := by decide

theorem witness_StepRunsTheFetchedInstruction : State.reset.stuck = false ∧ State.reset.pipe.tcyc = 0 := by decide

/-- The machine after reset with these bytes in ROM at PC = $F000. -/
def plain (bytes : List Byte) : State := bench 0xF000 bytes (fun c => c) []

set_option maxRecDepth 100000 in
theorem witness_StepRunsTheCodeAtPc :
    (plain [0xA9, 0x10]).stuck = false ∧ (plain [0xA9, 0x10]).pipe.tcyc = 0 ∧
      (plain [0xA9, 0x10]).codeAt (plain [0xA9, 0x10]).cpu.pc (encode (.ldaImm 0x10)) :=
  ⟨by decide, by decide, by decide, by decide, trivial⟩

set_option maxRecDepth 100000 in
/-- JSR in ROM: no push can store over its last byte. -/
theorem witness_StepRunsTheCodeAtPc_jsr :
    (plain [0x20, 0x00, 0xF2]).codeAt (plain [0x20, 0x00, 0xF2]).cpu.pc (encode (.jsr 0xF200)) ∧
      (plain [0x20, 0x00, 0xF2]).jsrOperandStays ((plain [0x20, 0x00, 0xF2]).cpu.pc + 2) := by
  refine ⟨⟨by decide, by decide, by decide, trivial⟩, fun k h => ?_, by decide, by decide⟩
  rw [show busTarget ((plain [0x20, 0x00, 0xF2]).cpu.pc + 2) = .cart 2 by decide] at h
  cases h

/-- JSR in RAM at $0080 with the stack right above its last byte. -/
def jsrInRam : State := bench 0x0080 [] (fun c => { c with s := 0x84 }) [(0, 0x20), (2, 0xF2)]

set_option maxRecDepth 100000 in
theorem witness_StepRunsTheCodeAtPc_jsr_in_ram :
    jsrInRam.codeAt jsrInRam.cpu.pc (encode (.jsr 0xF200)) ∧ jsrInRam.jsrOperandStays (jsrInRam.cpu.pc + 2) := by
  refine ⟨⟨by decide, by decide, by decide, trivial⟩, fun k h => ?_, by decide, by decide⟩
  rw [show busTarget (jsrInRam.cpu.pc + 2) = .ram 2 by decide] at h
  cases h
  decide

set_option maxRecDepth 100000 in
theorem witness_StepKeepsTheInvariant :
    (plain [0x85, 0x80]).Inv ∧ ∃ t, step (plain [0x85, 0x80]) = .next t := ⟨by decide, step_next _⟩

/-- Three delayed writes as close together as stores can be. -/
def threePending : State :=
  State.reset.withTia { Tia.powerOn with pending := [⟨.grp0, 0xFF, 3⟩, ⟨.pf0, 0xF0, 6⟩, ⟨.pf1, 0x01, 9⟩] }

set_option maxRecDepth 100000 in
theorem witness_StepKeepsThePendingBound :
    threePending.Inv ∧ PendingSpaced threePending.tia.pending ∧ ∃ t, step threePending = .next t :=
  ⟨by decide, by decide, step_next _⟩

theorem witness_StepKeepsTheParameters :
    ∃ t, step (State.reset.withCpuFault (some ⟨0xF000, 0x02⟩)) = .next t := step_next _

theorem witness_BFlagIsNotObservable : (plain [0x08]).pipe.tcyc = 0 ∧ ∃ t, step (plain [0x08]) = .next t :=
  ⟨by decide, step_next _⟩

/-- A machine with A = $99, X = Y = 1, C = 1, D = `d`. -/
def operands (d : Bool) : State := bench 0xF000 [] (fun c => { c with a := 0x99, x := 1, y := 1, c := true, d := d }) [(0x7F, 0x80)]

/-- The RAM clause of the operand (LoadResults, and the same in the statements of ADC, SBC, CMP, CPX, CPY, AND, ORA, EOR,
BIT), at both ends of RAM and through an index that crosses a page. -/
theorem witness_LoadResults_ram :
    busTarget ((MemOperand.zp 0x80).effectiveAddress (operands false)) = .ram 0 ∧
    busTarget ((MemOperand.zp 0xFF).effectiveAddress (operands false)) = .ram 127 ∧
    busTarget ((MemOperand.zpx 0x7F).effectiveAddress (operands false)) = .ram 0 ∧
    busTarget ((MemOperand.absx 0x01FE).effectiveAddress (operands false)) = .ram 127 ∧
    busTarget ((MemOperand.absy 0x047F).effectiveAddress (operands false)) = .ram 0 := by decide

theorem witness_StoreResults_ram :
    busTarget ((MemOperand.zpy 0x7F).effectiveAddress (operands false)) = .ram 0 ∧
    busTarget ((MemOperand.abs 0x01FF).effectiveAddress (operands false)) = .ram 127 := by decide

set_option maxRecDepth 100000 in
theorem witness_ReadModifyWriteResults_ram :
    busTarget ((MemOperand.zpx 0xFE).effectiveAddress (operands false)) = .ram 127 ∧
    busTarget ((MemOperand.absx 0x007F).effectiveAddress (operands false)) = .ram 0 := by decide

theorem witness_BinaryAddAndSubtract : (operands false).cpu.d = false := by decide

theorem witness_DecimalAddAndSubtract :
    (operands true).cpu.d = true ∧ (operands true).cfg.decimalFlags = .nmos ∧
      validBcd (operands true).cpu.a = true ∧ validBcd 0x00 = true ∧ validBcd 0x99 = true := by decide

/-- The same machine under `DECIMAL_FLAGS = any`. -/
def openFlags : State := { operands true with cfg := { Config.simulation with decimalFlags := .any } }

theorem witness_DecimalWithOpenFlags :
    openFlags.cpu.d = true ∧ openFlags.cfg.decimalFlags = .any ∧ validBcd openFlags.cpu.a = true ∧ validBcd 0x01 = true := by
  decide

/-- The opcodes of the flag instructions and NOP. -/
def flagOpcodes : List Byte := [0x18, 0x38, 0x58, 0x78, 0xD8, 0xF8, 0xB8, 0xEA]

set_option maxRecDepth 100000 in
theorem witness_FlagInstructionsAndNop :
    (flagOpcodes.all fun op =>
      !(plain [op]).stuck && (plain [op]).pipe.tcyc == 0 && (plain [op]).codeByte (plain [op]).cpu.pc == some op &&
        !(plain [op]).tia.wsyncHalt && decide ((plain [op]).tia.hclock < 228)) = true := by decide

/-- The last color clock that the clause admits. -/
theorem witness_FlagInstructionsAndNop_last_clock :
    (State.reset.withTia { Tia.powerOn with hclock := 227 }).tia.hclock < 228 := by decide

/-- All flags set, and all clear: each branch is taken in one of the two and not in the other. -/
def flagsAll (f : Bool) : State := bench 0xF0FD [] (fun c => { c with n := f, v := f, z := f, c := f }) []

/-- What the eight conditions are in a state, in the statement's order. -/
def conditions (c : Cpu) : List Bool := [!c.n, c.n, !c.v, c.v, !c.c, c.c, !c.z, c.z]

theorem witness_BranchResults :
    conditions (flagsAll true).cpu = [false, true, false, true, false, true, false, true] ∧
    conditions (flagsAll false).cpu = [true, false, true, false, true, false, true, false] := by decide

/-- From PC = $F0FD a displacement of 2 stays in the page and one of 3 leaves it. -/
theorem witness_BranchResults_page :
    (BitVec.ofInt 16 (((0xF0FD : Word).toNat : Int) + (0x02 : Byte).toInt)).toNat / 256 = (0xF0FD : Word).toNat / 256 ∧
    (BitVec.ofInt 16 (((0xF0FD : Word).toNat : Int) + (0x03 : Byte).toInt)).toNat / 256 ≠ (0xF0FD : Word).toNat / 256 ∧
    (flagsAll true).cpu.pc = 0xF0FD := by decide

/-- Pointers at both ends of RAM, and at the end of a page whose next address lies in RAM. -/
theorem witness_JumpsAndSubroutines_jmp :
    busTarget 0x0080 = .ram 0 ∧ busTarget (wordOf (highByte 0x0080) (lowByte 0x0080 + 1)) = .ram 1 ∧
    busTarget 0x00FF = .ram 127 ∧ busTarget (wordOf (highByte 0x00FE) (lowByte 0x00FE + 1)) = .ram 127 := by decide

/-- The stack clauses of JumpsAndSubroutines, PushAndPullResults, BreakTakesTheTrap and ReturnFromInterruptResults at both
ends of RAM: pushes (S, S - 1, S - 2) and pulls (S + 1, S + 2, S + 3). -/
theorem witness_stack_in_ram :
    [0xFF, 0xFE, 0xFD].map (fun s => busTarget (stackPage s)) = [.ram 127, .ram 126, .ram 125] ∧
    [0x82, 0x82 - 1, 0x82 - 2].map (fun s => busTarget (stackPage s)) = [.ram 2, .ram 1, .ram 0] ∧
    [0x7F + 1, 0x7F + 2, 0x7F + 3].map (fun s => busTarget (stackPage s)) = [.ram 0, .ram 1, .ram 2] ∧
    [0xFC + 1, 0xFC + 2, 0xFC + 3].map (fun s => busTarget (stackPage s)) = [.ram 125, .ram 126, .ram 127] := by decide

/-- A machine at BRK with the vector at $F300. -/
def atBrk : State := romEdit 0xFFFF 0xF3 (bench 0xF000 [0x00, 0xEA] (fun c => { c with s := 0xFF }) [])

set_option maxRecDepth 100000 in
theorem witness_BreakTakesTheTrap_vector :
    let s1 := cycleDummy atBrk.cpu.pc atBrk
    ([stackPage atBrk.cpu.s, stackPage (atBrk.cpu.s - 1), stackPage (atBrk.cpu.s - 2)].all fun a =>
      !s1.cart.variant.snoops a) = true ∧
    s1.codeByte 0xFFFE = some 0x00 ∧ s1.codeByte 0xFFFF = some 0xF3 := by decide

set_option maxRecDepth 100000 in
theorem witness_UndocumentedOpcodes :
    ¬ WellFormed .undoc02 ∧ State.reset.cfg.unimplPolicy = .fatal ∧ (skipping State.reset).cfg.unimplPolicy = .skip ∧
      (State.reset.withCpuFault (some ⟨0xF000, 0x02⟩)).stuck = true := by decide

theorem witness_InstructionFrame : WellFormed (.staAbs 0x0080) ∧ ∃ t, exec (.staAbs 0x0080) (operands false) = .next t :=
  ⟨by decide, exec_next _ _⟩

/-- A machine with S = `v`. -/
def withS (v : Byte) : State := bench 0xF000 [] (fun c => { c with s := v }) []

theorem witness_StackRoundTrips_brk :
    0x82 ≤ (withS 0x82).cpu.s.toNat ∧ ∃ t u, exec .brk (withS 0x82) = .next t ∧ exec .rti t = .next u :=
  ⟨by decide, _, _, exec_eq_run _ _, exec_eq_run _ _⟩

theorem witness_StackRoundTrips_jsr :
    0x81 ≤ (withS 0x81).cpu.s.toNat ∧ ∃ t u, exec (.jsr 0xF200) (withS 0x81) = .next t ∧ exec .rts t = .next u :=
  ⟨by decide, _, _, exec_eq_run _ _, exec_eq_run _ _⟩

theorem witness_StackRoundTrips_pha :
    0x80 ≤ (withS 0x80).cpu.s.toNat ∧ ∃ t u, exec .pha (withS 0x80) = .next t ∧ exec .pla t = .next u :=
  ⟨by decide, _, _, exec_eq_run _ _, exec_eq_run _ _⟩

theorem witness_StackRoundTrips_php :
    0x80 ≤ (withS 0xFF).cpu.s.toNat ∧ ∃ t u, exec .php (withS 0xFF) = .next t ∧ exec .plp t = .next u :=
  ⟨by decide, _, _, exec_eq_run _ _, exec_eq_run _ _⟩

set_option maxRecDepth 100000 in
theorem witness_StepTakesTheTableCycles :
    let s := plain [0xE6, 0x03]
    s.stuck = false ∧ s.pipe.tcyc = 0 ∧ s.tia.wsyncHalt = false ∧
      (((fetch s).1.shape.earlyWrites (fetch s).2).all fun a => !isWsync a) = true ∧
      ((fetch s).1.shape.earlyWrites (fetch s).2) = [0x0003] := by decide

/-- A machine with RDY asserted at color clock `h`. -/
def haltedAt (h : Nat) : State := State.reset.withTia { Tia.powerOn with hclock := h, wsyncHalt := true }

set_option maxRecDepth 100000 in
theorem witness_OneCallIsThreeTicks : (tickDevices (haltedAt 0)).stalled = true ∧ (haltedAt 227).tia.hclock < 228 := by decide

/-- The longest stall and the shortest. -/
theorem witness_WsyncStallLength :
    ((haltedAt 0).tia.wsyncHalt = true ∧ (haltedAt 0).tia.hclock < 228 ∧ (haltedAt 0).tia.hclock % 3 = 0) ∧
    ((haltedAt 225).tia.wsyncHalt = true ∧ (haltedAt 225).tia.hclock < 228 ∧ (haltedAt 225).tia.hclock % 3 = 0) := by decide

/-- Bits 12, 7 and 9 of an address. -/
def decodeBits (a : Word) : Bool × Bool × Bool := (a.getLsbD 12, a.getLsbD 7, a.getLsbD 9)

theorem witness_BusDecode :
    [0x1000, 0xFFFF].map (fun a => (decodeBits a).1) = [true, true] ∧
    [0x0000, 0x0F7F].map decodeBits = [(false, false, false), (false, false, true)] ∧
    [0x0080, 0xEDFF].map decodeBits = [(false, true, false), (false, true, false)] ∧
    [0x0280, 0x0FFF].map decodeBits = [(false, true, true), (false, true, true)] := by decide

theorem witness_RamReadsTheLastWrite :
    [0x0080, 0x0180, 0x2C80].map busTarget = [.ram 0, .ram 0, .ram 0] ∧
    [0x00FF, 0x0DFF].map busTarget = [.ram 127, .ram 127] := by decide

/-- `super` with 16384 bytes, and `mnet` with its RAM segment selected. -/
def superCart : Cart := cartOf .super 16384 (.hot ⟨4, 0xFF6, 0xFF9, 128⟩ 0) []
def mnetCart : Cart := cartOf .mnet 16384 (.mnet 7 3) []

theorem witness_CartridgeCells :
    [0x1000, 0x1FFF].map busTarget = [.cart 0, .cart 0xFFF] ∧
    [0x000, 0x07F, 0x080, 0x0FF, 0x100, 0xFF5, 0xFF9, 0xFFF].map (fun o => (superCart.switched o).locate o) =
      [.writePort 0, .writePort 127, .readPort 0, .readPort 127, .rom 0x100, .rom 0xFF5, .rom 0x3FF9, .rom 0xFFF] ∧
    [0x000, 0x3FF, 0x400, 0x7FF, 0x800, 0x8FF, 0x900, 0x9FF, 0xA00, 0xFE0].map
        (fun o => (mnetCart.switched o).locate o) =
      [.writePort 0, .writePort 1023, .readPort 0, .readPort 1023, .writePort 1792, .writePort 2047, .readPort 1792,
        .readPort 2047, .rom 0x3A00, .rom 0x3FE0] := by decide

/-- Both ends of every clause of the window maps (R79, R90, R95, R96, R98): generic with RAM, `single_bank`, `fe`, `pb`, `mnet`
with a ROM segment. The `mnet` RAM segment is in the theorem above. -/
theorem witness_CartridgeCells_maps :
    [0x000, 0x07F, 0x080, 0x0FF, 0x100, 0xFFF].map superCart.locate =
      [.writePort 0, .writePort 127, .readPort 0, .readPort 127, .rom 0x100, .rom 0xFFF] ∧
    [0x000, 0x7FF, 0x800, 0xFFF].map (cartOf .singleBank 2048 .single []).locate =
      [.rom 0, .rom 0x7FF, .rom 0, .rom 0x7FF] ∧
    [0x000, 0xFFF].map (cartOf .fe 8192 (.fe true false) []).locate = [.rom 0x1000, .rom 0x1FFF] ∧
    [0x000, 0x3FF, 0x400, 0x7FF, 0x800, 0xBFF, 0xC00, 0xFFF].map (cartOf .pb 8192 (.pb 3 0 5) []).locate =
      [.rom 0xC00, .rom 0xFFF, .rom 0, .rom 0x3FF, .rom 0x1400, .rom 0x17FF, .rom 0x1C00, .rom 0x1FFF] ∧
    [0x000, 0x7FF, 0x800, 0x8FF, 0x900, 0x9FF, 0xA00, 0xFFF].map (cartOf .mnet 16384 (.mnet 6 0) []).locate =
      [.rom 0x3000, .rom 0x37FF, .writePort 1024, .writePort 1279, .readPort 1024, .readPort 1279, .rom 0x3A00,
        .rom 0x3FFF] := by decide

theorem witness_HotAddressesSwitchBanks_hot :
    let s := State.reset.withCart superCart
    busTarget 0x1FF6 = .cart 0xFF6 ∧ busTarget 0xFFF9 = .cart 0xFF9 ∧ s.cart.variant = .hot ⟨4, 0xFF6, 0xFF9, 128⟩ 0 ∧
      2 * 128 ≤ 0xFF6 ∧ busTarget 0x1100 = .cart (2 * 128) ∧ s.hotAddress 0x1100 = false ∧ s.hotAddress 0x1FF5 = false ∧
      s.hotAddress 0x1FFA = false ∧ s.hotAddress 0x1FF9 = true := by decide

theorem witness_HotAddressesSwitchBanks_pb :
    (State.reset.withCart (cartOf .pb 8192 (.pb 0 0 0) [])).cart.variant = .pb 0 0 0 ∧
    [0x1FE0, 0x1FE7, 0x1FE8, 0x1FEF, 0x1FF0, 0x1FF7].map busTarget =
      [.cart (0xFE0 + 0), .cart (0xFE0 + 7), .cart (0xFE8 + 0), .cart (0xFE8 + 7), .cart (0xFF0 + 0), .cart (0xFF0 + 7)] := by
  decide

theorem witness_HotAddressesSwitchBanks_mnet :
    (State.reset.withCart mnetCart).cart.variant = .mnet 7 3 ∧
    [0x1FE0, 0x1FE7, 0x1FE8, 0x1FEB].map busTarget =
      [.cart (0xFE0 + 0), .cart (0xFE0 + 7), .cart (0xFE8 + 0), .cart (0xFE8 + 3)] := by decide

/-- A later read in each clause of `mnet`'s map, none of them hot, and one on each side of `pb`'s hot range. -/
theorem witness_HotAddressesSwitchBanks_later :
    [0x1000, 0x17FF, 0x1400, 0x1900, 0x19FF, 0x1A00, 0x1FDF, 0x1FEC].map
        (fun a => (busTarget a, (State.reset.withCart mnetCart).hotAddress a)) =
      [(.cart 0, false), (.cart 0x7FF, false), (.cart 0x400, false), (.cart 0x900, false), (.cart 0x9FF, false),
        (.cart 0xA00, false), (.cart 0xFDF, false), (.cart 0xFEC, false)] ∧
    [0x1FDF, 0x1FE0, 0x1FF7, 0x1FF8].map
        (fun a => (State.reset.withCart (cartOf .pb 8192 (.pb 0 0 0) [])).hotAddress a) = [false, true, true, false] := by
  decide

theorem witness_HotAddressesSwitchBanks_none :
    State.reset.hotAddress 0x1FF8 = false ∧ ∀ bank1 armed, State.reset.cart.variant ≠ .fe bank1 armed :=
  ⟨by decide, fun _ _ h => by cases h⟩

theorem witness_FeSchemeSnoops :
    (State.reset.withCart (cartOf .fe 8192 (.fe true true) [])).cart.variant = .fe true true ∧
      busTarget 0x1000 = .cart 0 ∧ busTarget 0xFFFF = .cart 0xFFF := by decide

/-- A RIOT in each of the four clauses of one tick. -/
theorem witness_TimerLoadAndCount_tick :
    [({ Riot.powerOn 0x00 with fast := true } : Riot), Riot.powerOn 0x00, Riot.powerOn 0x01,
        { Riot.powerOn 0x00 with prescale := 1 }].map
        (fun r => (r.fast, decide (r.prescale = 0), decide (r.timer = 0))) =
      [(true, true, true), (false, true, true), (false, true, false), (false, false, true)] := by decide

/-- R450: in fast mode a wrap from 0 sets the latch again. -/
theorem test_timer_wraps_again :
    (fun r : Riot => (r.timer, r.underflow, r.fast)) ({ Riot.powerOn 0x00 with fast := true } : Riot).tick =
      (0xFF, true, true) := by decide

theorem witness_TimerLoadAndCount_load :
    [0x0294, 0x0295, 0x0296, 0x0297].map (fun a : Word => (busTarget a, a.getLsbD 2, a.getLsbD 4, a.toNat % 4)) =
      [(.riot, true, true, 0), (.riot, true, true, 1), (.riot, true, true, 2), (.riot, true, true, 3)] := by decide

/-- The clauses of the count for interval 8 and v = 2: n = 0; j = 1 and j = 2 at both ends of their ticks; the underflow
tick 17 and the tick after it. No n falls under two of them. -/
theorem witness_TimerLoadAndCount_count :
    (1 + (1 - 1) * 8 ≤ 1 ∧ 1 ≤ 1 * 8) ∧ (1 + (1 - 1) * 8 ≤ 8 ∧ 8 ≤ 1 * 8) ∧ (1 + (2 - 1) * 8 ≤ 9 ∧ 9 ≤ 2 * 8) ∧
    (1 + (2 - 1) * 8 ≤ 16 ∧ 16 ≤ 2 * 8) ∧ 2 ≤ (0x02 : Byte).toNat ∧ 17 = 1 + (0x02 : Byte).toNat * 8 + 0 ∧
    18 = 1 + (0x02 : Byte).toNat * 8 + 1 := by decide

theorem witness_RiotRegisters :
    [0x0284, 0x0285, 0x029C].map (fun a : Word => (busTarget a, a.getLsbD 2, a.getLsbD 0)) =
      [(.riot, true, false), (.riot, true, true), (.riot, true, false)] ∧
    [0x0280, 0x0281, 0x0282, 0x0283].map (fun a : Word => (busTarget a, a.getLsbD 2, a.toNat % 4)) =
      [(.riot, false, 0), (.riot, false, 1), (.riot, false, 2), (.riot, false, 3)] ∧
    State.reset.tia.wsyncHalt = false := by decide

theorem witness_LineWrap :
    ({ Tia.powerOn with hclock := 227, vsyncOn := true } : Tia).hclock = 227 ∧
    ({ Tia.powerOn with hclock := 227, vsyncOn := true } : Tia).regs.vsync.getLsbD 1 = false := by decide

theorem witness_DelayedWrites :
    [0x000D, 0x000F, 0x001B, 0x001F, 0x005F].map (fun a : Word => (busTarget a, a.toNat % 64)) =
      [(.tia, 0x0D), (.tia, 0x0F), (.tia, 0x1B), (.tia, 0x1F), (.tia, 0x1F)] ∧
    (threePending.tia.pending.all fun w => decide (1 ≤ w.remaining)) = true := by decide

theorem witness_RegisterWrites :
    [0x0000, 0x0029, 0x0003, 0x002D, 0x003F].map (fun a : Word => (busTarget a, a.toNat % 64)) =
      [(.tia, 0x00), (.tia, 0x29), (.tia, 0x03), (.tia, 0x2D), (.tia, 0x3F)] := by decide

theorem witness_StrobesAndMotion :
    [0x0002, 0x0010, 0x0014, 0x002A, 0x002B, 0x002C].map (fun a : Word => (busTarget a, a.toNat % 64)) =
      [(.tia, 0x02), (.tia, 0x10), (.tia, 0x14), (.tia, 0x2A), (.tia, 0x2B), (.tia, 0x2C)] := by decide

/-- The writes next to CXCLR, and an instruction that writes nothing. -/
theorem witness_CollisionLatchesOnlyRise :
    (Instr.shape (.staZp 0x2B)).writes State.reset = [0x002B] ∧ (0x002B : Word).toNat % 64 ≠ 0x2C ∧
    (Instr.shape (.staZp 0x2D)).writes State.reset = [0x002D] ∧ (0x002D : Word).toNat % 64 ≠ 0x2C ∧
    (Instr.shape .nop).writes State.reset = [] ∧ ∃ t, exec (.staZp 0x2B) State.reset = .next t :=
  ⟨by decide, by decide, by decide, by decide, by decide, exec_next _ _⟩

theorem witness_ObjectPixels : 0 < 160 ∧ 159 < 160 := by decide

theorem witness_LineOfPixels : State.reset.tia.hclock = 0 := by decide

/-- A line with every object at its own pixel: both players, both missiles, the ball, the playfield at 0 to 3. -/
def lineOfAll (ctrlpf : Byte) (vblank : Bool) (h : Nat) : Tia :=
  { Tia.powerOn with
    hclock := h
    vblankOn := vblank
    regs := { TiaRegs.zero with ctrlpf := ctrlpf }
    gfx := { Graphics.zero with
      grp0New := 0x80, grp1New := 0x80, enam0 := true, enam1 := true, enablNew := true, pf0 := 0x10 }
    pos := ⟨10, 20, 11, 21, 30⟩ }

/-- Which of the clauses' conditions hold at the pixel of the tick: a player-0 object, a player-1 object, ball, playfield. -/
def classAt (t : Tia) : Bool × Bool × Bool × Bool :=
  let o := t.objectsAt (t.hclock - 68)
  (o.p0 || o.m0, o.p1 || o.m1, o.bl, o.pf)

theorem witness_PixelColour :
    (lineOfAll 0x00 false 67).hclock < 68 ∧ (lineOfAll 0x00 true 68).vblankOn = true ∧
    (lineOfAll 0x00 false 68).regs.ctrlpf.getLsbD 2 = false ∧ (lineOfAll 0x04 false 68).regs.ctrlpf.getLsbD 2 = true ∧
    [68, 78, 79, 88, 89, 98, 108].map (fun h => classAt (lineOfAll 0x00 false h)) =
      [(false, false, false, true), (true, false, false, false), (true, false, false, false), (false, true, false, false),
        (false, true, false, false), (false, false, true, false), (false, false, false, false)] ∧
    [68, 78, 88, 98, 108].map (fun h => classAt (lineOfAll 0x04 false h)) =
      [(false, false, false, true), (true, false, false, false), (false, true, false, false),
        (false, false, true, false), (false, false, false, false)] := by decide

theorem witness_MissileLock :
    ({ TiaRegs.zero with resmp0 := 0x02, nusiz0 := 0x05 } : TiaRegs).resmp0.getLsbD 1 = true ∧
    ({ TiaRegs.zero with resmp1 := 0x02, nusiz1 := 0x07 } : TiaRegs).resmp1.getLsbD 1 = true := by decide

/-- A channel about to toggle, with the longest period and the shortest. -/
def toggling (f : Byte) (pre : Nat) : Tia :=
  { Tia.powerOn with
    regs := { TiaRegs.zero with audf0 := f, audf1 := f }
    audio := ⟨pre, f.toNat, f.toNat, false, false⟩ }

theorem witness_AudioStepsAndPeriod :
    (toggling 0 113).audio.pre + 1 = State.reset.cfg.audioClockDiv ∧
    (toggling 0 112).audio.pre + 1 ≠ State.reset.cfg.audioClockDiv ∧
    (toggling 31 0).audio.pre = 0 ∧ (toggling 31 0).audio.div0 = (toggling 31 0).regs.audf0.toNat ∧
    (toggling 0 0).audio.div1 = (toggling 0 0).regs.audf1.toNat ∧ 1 ≤ State.reset.cfg.audioClockDiv := by decide

theorem witness_TiaReads :
    [0x0000, 0x000D, 0x003F, 0x0100].map (fun a : Word => (busTarget a, a.toNat % 16)) =
      [(.tia, 0x0), (.tia, 0xD), (.tia, 0xF), (.tia, 0x0)] ∧ State.reset.cfg.tiaReadLow = some 0 := by decide

set_option maxRecDepth 100000 in
theorem witness_CpuResetEffects :
    atBrk.codeByte 0xFFFC = some 0x00 ∧ (romEdit 0xFFFD 0xF0 atBrk).codeByte 0xFFFD = some 0xF0 := by decide

/-- Construction succeeds where the scheme accepts the size. -/
theorem construction_next {cfg : Config} {p : PowerOn} {tag : SchemeTag} {image : List Byte} (n : Nat)
    (hn : image.length = n) (h : (resolveVariant cfg.cartE p tag n).isSome = true) :
    ∃ t, loadCartridge cfg p tag image = .next t := by
  obtain ⟨v, hv⟩ := Option.isSome_iff_exists.mp h
  unfold loadCartridge makeCart
  rw [hn, hv]
  exact ⟨_, rfl⟩

theorem witness_ConstructionValues :
    Config.simulation.cartE.hHi < 0xFFC ∧ Config.simulation.cartE.ramSize ≤ 0xFFC ∧
    (∃ t, loadCartridge Config.simulation PowerOn.simulation .singleBank (List.replicate 2048 0xEA) = .next t) ∧
    ∃ t, loadCartridge Config.simulation PowerOn.simulation .e (List.replicate 32768 0xEA) = .next t :=
  ⟨by decide, by decide, construction_next 2048 List.length_replicate (by decide),
    construction_next 32768 List.length_replicate (by decide)⟩

/-- Every scheme, and every size of `default` and `super`, is met by some image. -/
theorem witness_ConstructionValues_schemes :
    (∀ q ∈ ([(.default, 8192), (.default, 12288), (.default, 16384), (.default, 32768), (.default, 2048), (.f4, 32768),
        (.fe, 8192), (.super, 8192), (.super, 16384), (.super, 32768), (.pb, 8192), (.mnet, 16384), (.cbs, 12288)] :
        List (SchemeTag × Nat)),
      (resolveVariant Config.simulation.cartE PowerOn.simulation q.1 q.2).isSome = true) := by decide

/-- Both sides of the size check: the smallest image and one byte more. -/
theorem witness_InvalidCartridgeImages :
    (List.replicate 2048 (0xEA : Byte)).length ∈ [2048, 4096] ∧ (List.replicate 2049 (0xEA : Byte)).length ∉ [2048, 4096] := by
  rw [List.length_replicate, List.length_replicate]
  decide

theorem witness_SnapshotRestores :
    State.reset.pipe.tcyc = 0 ∧ (∃ k, capture State.reset = some k) ∧ (State.reset.withPipe ⟨1, 0, 0, 0, 0, 0, false⟩).pipe.tcyc ≠ 0 ∧
    (State.reset.withRam [(0, 1)]).cart.rom = State.reset.cart.rom ∧ (plain [0xEA]).cart.rom ≠ State.reset.cart.rom :=
  ⟨rfl, ⟨_, rfl⟩, by decide, by decide, by decide⟩

/-- How a bounded run ended. -/
def endKind (r : RunEnd) : String :=
  match r with
  | .stopped _ => "stopped"
  | .faulted _ _ => "faulted"
  | .running _ => "running"

set_option maxRecDepth 100000 in
theorem witness_RunUntilStops :
    endKind (runUntil (fun s => s.cycleCounter == 2) 5 (plain [0xEA])) = "stopped" ∧
    endKind (runUntil (fun s => s.cycleCounter == 9) 5 (plain [0x02])) = "faulted" ∧
    endKind (runUntil (fun s => s.cycleCounter == 9) 2 (plain [0xEA])) = "running" := by decide

end Sys2Proof.Tests
end

section
/-! SUPPORT. An instruction as the sequence of its CPU cycles (70_reset_and_hazards.md R520 to R545), the cases of a step,
and the stalled calls before a cycle. Every statement about `exec` or `step` below goes through these. -/

namespace Sys2Proof.Proofs

open Sys2Proof.Machine Sys2Proof.Laws

/-- `t` comes from `s` by CPU cycles that read the addresses `reads` and write the addresses `writes`, each list in the
order of its cycles, with register updates and draws of free values between them (R430, R520). -/
inductive Cycles : List Word → List Word → State → State → Prop
  | refl (s : State) : Cycles [] [] s s
  | read {r w : List Word} {s t : State} (a : Word) (h : Cycles r w s t) : Cycles (r ++ [a]) w s (cycleRead a t).2
  | write {r w : List Word} {s t : State} (a : Word) (v : Byte) (h : Cycles r w s t) :
      Cycles r (w ++ [a]) s (cycleWrite a v t)
  | cpu {r w : List Word} {s t : State} (f : Cpu → Cpu) (h : Cycles r w s t) : Cycles r w s (t.mapCpu f)
  | draws {r w : List Word} {s t : State} (k : Nat) (h : Cycles r w s t) : Cycles r w s (t.withDraws k)

namespace Cycles

variable {r w r' w' : List Word} {s t u : State}

theorem trans (h : Cycles r w s t) (k : Cycles r' w' t u) : Cycles (r ++ r') (w ++ w') s u := by
  induction k with
  | refl => simpa using h
  | read a _ ih => simpa using (ih h).read a
  | write a v _ ih => simpa using (ih h).write a v
  | cpu f _ ih => exact (ih h).cpu f
  | draws k _ ih => exact (ih h).draws k

theorem dummy (a : Word) (h : Cycles r w s t) : Cycles (r ++ [a]) w s (cycleDummy a t) := h.read a

theorem push (v : Byte) (h : Cycles r w s t) : Cycles r (w ++ [stackPage t.cpu.s]) s (push v t) :=
  (h.write _ v).cpu _

theorem pull (h : Cycles r w s t) : Cycles (r ++ [stackPage (t.cpu.s + 1)]) w s (pull t).2 := (h.cpu Cpu.incS).read _

/-- The parameters hold through any cycles. -/
theorem cfg (h : Cycles r w s t) : t.cfg = s.cfg := by
  induction h with
  | refl => rfl
  | read a _ ih => rw [cycleRead_cfg, ih]
  | write a v _ ih => rw [cycleWrite_cfg, ih]
  | cpu f _ ih => exact ih
  | draws k _ ih => exact ih

end Cycles

@[simp] theorem push_cpu (v : Byte) (s : State) : (push v s).cpu = s.cpu.decS := by simp [push]

@[simp] theorem pull_cpu (s : State) : (pull s).2.cpu = s.cpu.incS := by simp [pull]

@[simp] theorem readPointer_cpu (z : Byte) (s : State) : (readPointer z s).2.cpu = s.cpu := by simp [readPointer]

/-! ### Operands -/

theorem readPointer_cycles (z : Byte) (s : State) :
    Cycles [zeroPage z, zeroPage (z + 1)] [] s (readPointer z s).2 :=
  ((Cycles.refl s).read _).read _

theorem base_cycles (o : MemOperand) (s : State) : Cycles (o.baseReads s) [] s (o.base s).2.2 := by
  cases o with
  | zp b => exact .refl s
  | zpx b => exact (Cycles.refl s).dummy _
  | zpy b => exact (Cycles.refl s).dummy _
  | abs a => exact .refl s
  | absx a => exact .refl s
  | absy a => exact .refl s
  | indx b => exact ((Cycles.refl s).dummy _).trans (readPointer_cycles _ _)
  | indy b => exact readPointer_cycles _ _

theorem base_index_of_not_corrects {o : MemOperand} (h : o.corrects = false) (s : State) : (o.base s).2.1 = 0 := by
  cases o with
  | absx _ | absy _ | indy _ => cases h
  | _ => rfl

theorem indexed_zero (a : Word) : indexed a 0 = a := by simp [indexed, zext16]

theorem effectiveAddress_of_not_corrects {o : MemOperand} (h : o.corrects = false) (s : State) :
    o.effectiveAddress s = (o.base s).1 := by
  rw [MemOperand.effectiveAddress, base_index_of_not_corrects h, indexed_zero]

/-- The address of a store or a read-modify-write instruction is the effective address (R125 to R132). -/
theorem address_fst (o : MemOperand) (s : State) : (o.address s).1 = o.effectiveAddress s := by
  unfold MemOperand.address
  cases h : o.corrects
  · exact (effectiveAddress_of_not_corrects h s).symm
  · rfl

theorem address_cycles (o : MemOperand) (s : State) : Cycles (o.addressReads s) [] s (o.address s).2 := by
  unfold MemOperand.address MemOperand.addressReads
  cases o.corrects
  · simpa using base_cycles o s
  · exact (base_cycles o s).dummy _

/-- Where the index carries, a read instruction reads the uncorrected address before the effective one (R531, R536). -/
theorem read_of_pageCrossed {o : MemOperand} {s : State} (h : o.pageCrossed s = true) :
    o.read s = cycleRead (o.effectiveAddress s) (cycleDummy (uncorrected (o.base s).1 (o.base s).2.1) (o.base s).2.2) := by
  unfold MemOperand.pageCrossed at h
  simp only [MemOperand.read, h, if_true, MemOperand.effectiveAddress]

/-- Where it does not, the effective address is read at once (R524 to R536). -/
theorem read_of_not_pageCrossed {o : MemOperand} {s : State} (h : o.pageCrossed s = false) :
    o.read s = cycleRead (o.effectiveAddress s) (o.base s).2.2 := by
  unfold MemOperand.pageCrossed at h
  by_cases hc : o.corrects = true
  · have hx : crossesPage (o.base s).1 (o.base s).2.1 = false := by simpa [hc] using h
    simp [MemOperand.read, hc, hx, MemOperand.effectiveAddress, uncorrected_eq_indexed _ _ hx]
  · simp [MemOperand.read, hc, effectiveAddress_of_not_corrects (by simpa using hc : o.corrects = false)]

theorem memOperand_cycles (o : MemOperand) (s : State) : Cycles ((ReadOperand.mem o).reads s) [] s (o.read s).2 := by
  have hb := base_cycles o s
  cases h : o.pageCrossed s
  · simpa [ReadOperand.reads, h, read_of_not_pageCrossed h] using hb.read _
  · simpa [ReadOperand.reads, h, read_of_pageCrossed h] using (hb.dummy _).read _

theorem readOperand_cycles (o : ReadOperand) (s : State) : Cycles (o.reads s) [] s (o.read s).2 := by
  cases o with
  | imm v => exact .refl s
  | mem o => exact memOperand_cycles o s

/-! ### Classes of instructions -/

theorem readOp_cycles (op : ReadOp) (m : Byte) (s : State) : Cycles [] [] s (op.apply m s) := by
  have alu : ∀ binary decimal, Cycles [] [] s (addSubtract binary decimal m s) := by
    intro binary decimal
    unfold addSubtract
    split
    · split
      · exact (Cycles.refl s).cpu _
      · exact ((Cycles.refl s).cpu _).draws _
    · exact (Cycles.refl s).cpu _
  cases op <;> simp only [ReadOp.apply]
  case adc | sbc => exact alu _ _
  all_goals exact Cycles.cpu _ (.refl s)

/-- The machine in which the cycles of a meaning start: an undocumented opcode has its fault recorded (R401). -/
def recordFault (k : Shape) (s : State) : State :=
  match k with
  | .undocumented opcode => raiseUnimplemented (s.cpu.pc - 1) opcode s
  | _ => s

theorem rmw_cycles (op : RmwOp) (o : MemOperand) (s : State) :
    Cycles ((Shape.rmw op o).reads s) ((Shape.rmw op o).writes s) s (runRmw op o s) := by
  rw [runRmw, address_fst]
  exact ((((address_cycles o s).read _).write _ _).write _ _).cpu _

theorem branch_cycles (b : Cond) (d : Byte) (s : State) :
    Cycles ((Shape.branch b d).reads s) [] s (runBranch b d s) := by
  simp only [Shape.reads, runBranch]
  have h := (Cycles.refl s).dummy s.cpu.pc
  split
  · split
    · exact h.cpu _
    · exact (h.dummy _).cpu _
  · exact .refl s

theorem jsr_cycles (a : Word) (s : State) :
    Cycles ((Shape.jsr a).reads s) ((Shape.jsr a).writes s) s (runJsr a s) := by
  have h := (((Cycles.refl s).dummy (stackPage s.cpu.s)).push (highByte s.cpu.pc)).push (lowByte s.cpu.pc)
  simpa [runJsr, jsrPrelude, Shape.reads, Shape.writes] using (h.dummy s.cpu.pc).cpu fun c => c.setPc a

theorem rts_cycles (s : State) : Cycles (Shape.rts.reads s) [] s (runRts s) := by
  have h := ((((Cycles.refl s).dummy s.cpu.pc).dummy (stackPage s.cpu.s)).pull.pull).dummy (rtsReturn s)
  simpa [runRts, rtsReturn, Shape.reads, BitVec.add_assoc] using h.cpu fun c => c.setPc (rtsReturn s + 1)

theorem pull_cycles (r : PushReg) (s : State) : Cycles ((Shape.pull r).reads s) [] s (runPull r s) := by
  have h := ((Cycles.refl s).dummy s.cpu.pc).dummy (stackPage s.cpu.s)
  simpa [runPull, Shape.reads] using h.pull.cpu (r.pulled _)

theorem brk_cycles (s : State) : Cycles (Shape.brk.reads s) (Shape.brk.writes s) s (runBrk s) := by
  have h := (((((Cycles.refl s).dummy s.cpu.pc).cpu Cpu.incPc).push (highByte (s.cpu.pc + 1))).push
    (lowByte (s.cpu.pc + 1))).push (s.cpu.pByte true)
  simpa [runBrk, trapEntry, Shape.reads, Shape.writes, Cpu.pByte, BitVec.sub_sub] using
    ((h.read 0xFFFE).read 0xFFFF).cpu _

theorem rti_cycles (s : State) : Cycles (Shape.rti.reads s) [] s (runRti s) := by
  have h := ((Cycles.refl s).dummy s.cpu.pc).dummy (stackPage s.cpu.s)
  have h := (h.pull.cpu fun c => c.setP (pull (cycleDummy (stackPage s.cpu.s) (cycleDummy s.cpu.pc s))).1).pull.pull
  simpa [runRti, trapReturn, Shape.reads, BitVec.add_assoc] using h.cpu _

/-- Every instruction is the sequence of the accesses that its class lists, after the record of an undocumented opcode
(R401, R520 to R545). -/
theorem run_cycles (k : Shape) (s : State) : Cycles (k.reads s) (k.writes s) (recordFault k s) (run k s) := by
  cases k with
  | implied op => exact ((Cycles.refl s).dummy _).cpu _
  | acc op => exact ((Cycles.refl s).dummy _).cpu fun c => c.rmwAcc op
  | read op o =>
    simpa [run, runRead, Shape.reads, Shape.writes, recordFault] using
      (readOperand_cycles o s).trans (readOp_cycles op _ _)
  | store r o =>
    simp only [run, runStore, address_fst]
    exact (address_cycles o s).write _ _
  | rmw op o => exact rmw_cycles op o s
  | branch b d => exact branch_cycles b d s
  | jmpAbs a => exact (Cycles.refl s).cpu fun c => c.setPc a
  | jmpInd p =>
    simp only [run, runJmpInd]
    exact (((Cycles.refl s).read _).read _).cpu _
  | jsr a => exact jsr_cycles a s
  | rts => exact rts_cycles s
  | push r =>
    simpa [Shape.reads, Shape.writes, run, runPush, recordFault] using
      ((Cycles.refl s).dummy s.cpu.pc).push (r.value s.cpu)
  | pull r => exact pull_cycles r s
  | brk => exact brk_cycles s
  | rti => exact rti_cycles s
  | undocumented opcode =>
    cases hp : s.cfg.unimplPolicy with
    | fatal =>
      simp only [Shape.reads, Shape.writes, recordFault, run, undocumented, hp]
      exact .refl _
    | skip =>
      simp only [Shape.reads, Shape.writes, recordFault, run, undocumented, hp]
      exact (Cycles.refl _).dummy _

/-! ### The fetch -/

theorem fetchByte_cycles (s : State) : Cycles [s.cpu.pc] [] s (fetchByte s).2 := ((Cycles.refl s).read _).cpu _

/-- A fetch is one to three read cycles from the instruction boundary (R121, R520). -/
theorem fetch_cycles (s : State) : ∃ r, r ≠ [] ∧ Cycles r [] (s.withPipe Latches.idle) (fetch s).2 := by
  have h1 := fetchByte_cycles (s.withPipe Latches.idle)
  have h2 := h1.trans (fetchByte_cycles _)
  have h3 := h2.trans (fetchByte_cycles _)
  simp only [fetch, fetchBytes]
  split
  · exact ⟨_, by simp, h1⟩
  · exact ⟨_, by simp, h2⟩
  · split
    · exact ⟨_, by simp, h2⟩
    · exact ⟨_, by simp, h3⟩

/-! ### Stalled calls -/

/-- The induction over the stalled calls before a cycle (R430, R432): what holds between calls as `P` and after a call's
device work as `Q` holds as `Q` when the CPU gets its cycle. -/
theorem awaitRdy_rec {P Q : State → Prop} (tick : ∀ s, P s → Q (tickDevices s)) (done : ∀ s, Q s → P (endCall s))
    (n : Nat) : ∀ s, P s → Q (awaitRdy n s) := by
  induction n with
  | zero => exact tick
  | succ n ih =>
    intro s h
    rw [awaitRdy_succ]
    split
    · exact ih _ (done _ (tick s h))
    · exact tick s h

/-! ### Steps -/

/-- In a call of a stuck machine only the devices move (R401; notes/assumptions/18.md). -/
theorem advance_of_stuck {s : State} (h : s.stuck = true) : advance s = endCall (tickDevices s) := by
  have hd : (tickDevices s).stuck = true := by rw [stuck_of_timeOnly (tickDevices_timeOnly s), h]
  simp [advance, stepCycle, hd]

theorem step_of_stuck {s : State} (h : s.stuck = true) : step s = .next (endCall (tickDevices s)) := by
  rw [step, if_pos h, advance_of_stuck h]

theorem step_of_boundary {s : State} (h : s.stuck = false) (hp : s.pipe.tcyc = 0) :
    step s = .next (run (fetch s).1.shape (fetch s).2) := by
  rw [step, if_neg (by simp [h]), if_neg (by simp [hp]), exec_eq_run]

theorem step_in_progress {s : State} (h : s.stuck = false) (hp : s.pipe.tcyc ≠ 0) :
    step s = .next (singleStep callBound s) := by
  rw [step, if_neg (by simp [h]), if_pos hp]

/-- Everything a step can be (R401, R437): a call of a stuck machine, the rest of an instruction in progress, or a whole
instruction. -/
theorem step_cases {s t : State} (h : step s = .next t) :
    (s.stuck = true ∧ t = endCall (tickDevices s)) ∨
    (s.stuck = false ∧ s.pipe.tcyc ≠ 0 ∧ t = singleStep callBound s) ∨
    (s.stuck = false ∧ s.pipe.tcyc = 0 ∧ t = run (fetch s).1.shape (fetch s).2) := by
  cases hs : s.stuck
  · by_cases hp : s.pipe.tcyc = 0
    · rw [step_of_boundary hs hp] at h
      exact .inr (.inr ⟨rfl, hp, (Host.Outcome.next.inj h).symm⟩)
    · rw [step_in_progress hs hp] at h
      exact .inr (.inl ⟨rfl, hp, (Host.Outcome.next.inj h).symm⟩)
  · rw [step_of_stuck hs] at h
    exact .inl ⟨rfl, (Host.Outcome.next.inj h).symm⟩

end Sys2Proof.Proofs
end

section
/-! SUPPORT. What an instruction leaves unchanged, what a TIA write can change, and that ticks only set collision latches. -/

namespace Sys2Proof.Proofs

open Sys2Proof.Machine Sys2Proof.Laws

/-! ### Frames -/

theorem frame_of_cycles {r w : List Word} {s t : State} (h : Cycles r w s t) : Frame r w s t := by
  induction h with
  | refl s => exact frame_refl s
  | read a _ ih => simpa using frame_trans ih (cycleRead_frame a _)
  | write a v _ ih => simpa using frame_trans ih (cycleWrite_frame a v _)
  | cpu f _ ih => simpa using frame_trans ih (mapCpu_frame _ f)
  | draws k _ ih => exact ⟨ih.ram, ih.cartRam, ih.rom, ih.scheme, ih.tiaRegs, ih.riotPorts, ih.cfg, ih.pipe⟩

theorem recordFault_frame (k : Shape) (s : State) : Frame [] [] s (recordFault k s) := by
  cases k with
  | undocumented opcode =>
    exact ⟨fun _ _ => rfl, fun _ _ => rfl, ⟨rfl, rfl, rfl⟩, rfl, fun _ => rfl, fun _ => ⟨rfl, rfl, rfl, rfl, rfl⟩,
      rfl, rfl⟩
  | _ => exact frame_refl s

theorem cpuFault_of_cycles {r w : List Word} {s t : State} (h : Cycles r w s t) : t.cpuFault = s.cpuFault := by
  induction h with
  | refl s => rfl
  | read a _ ih => rw [(cycleRead_keeps a _).cpuFault, ih]
  | write a v _ ih => rw [(cycleWrite_keeps a v _).cpuFault, ih]
  | cpu f _ ih => exact ih
  | draws k _ ih => exact ih

/-- The opcode of an undocumented class belongs to an undocumented instruction (R150, R151). -/
theorem undocumented_of_shape {i : Instr} {opcode : Byte} (h : i.shape = .undocumented opcode) :
    ¬ WellFormed i ∧ ¬ WellFormed (instrOf opcode 0 0) := by
  cases i <;> simp only [Instr.shape, reduceCtorEq, Shape.undocumented.injEq] at h
  all_goals
    subst h
    decide

theorem recordFault_of_wellFormed {i : Instr} (h : WellFormed i) (s : State) : recordFault i.shape s = s := by
  unfold recordFault
  split
  · rename_i opcode hk
    exact absurd h (undocumented_of_shape hk).1
  · rfl

/-- Settles O31: an instruction is the sequence of the accesses its class lists, and each of them has its frame. -/
theorem instructionFrame : Obligations.InstructionFrame := by
  intro i s t h
  obtain rfl := Host.Outcome.next.inj ((exec_eq_run i s).symm.trans h)
  have hc := run_cycles i.shape s
  refine ⟨frame_trans (recordFault_frame i.shape s) (frame_of_cycles hc), fun hw => ?_⟩
  rw [cpuFault_of_cycles hc, recordFault_of_wellFormed hw]

/-! ### Writes to the TIA -/

theorem kept_iff (r : TiaRegs) : r.kept = r ↔
    r.vsync &&& 0x02 = r.vsync ∧ r.vblank &&& 0xC2 = r.vblank ∧ r.nusiz0 &&& 0x37 = r.nusiz0 ∧
    r.nusiz1 &&& 0x37 = r.nusiz1 ∧ r.colup0 &&& 0xFE = r.colup0 ∧ r.colup1 &&& 0xFE = r.colup1 ∧
    r.colupf &&& 0xFE = r.colupf ∧ r.colubk &&& 0xFE = r.colubk ∧ r.ctrlpf &&& 0x37 = r.ctrlpf ∧
    r.refp0 &&& 0x08 = r.refp0 ∧ r.refp1 &&& 0x08 = r.refp1 ∧ r.audc0 &&& 0x0F = r.audc0 ∧
    r.audc1 &&& 0x0F = r.audc1 ∧ r.audf0 &&& 0x1F = r.audf0 ∧ r.audf1 &&& 0x1F = r.audf1 ∧
    r.audv0 &&& 0x0F = r.audv0 ∧ r.audv1 &&& 0x0F = r.audv1 ∧ r.hmp0 &&& 0xF0 = r.hmp0 ∧
    r.hmp1 &&& 0xF0 = r.hmp1 ∧ r.hmm0 &&& 0xF0 = r.hmm0 ∧ r.hmm1 &&& 0xF0 = r.hmm1 ∧ r.hmbl &&& 0xF0 = r.hmbl ∧
    r.vdelp0 &&& 0x01 = r.vdelp0 ∧ r.vdelp1 &&& 0x01 = r.vdelp1 ∧ r.vdelbl &&& 0x01 = r.vdelbl ∧
    r.resmp0 &&& 0x02 = r.resmp0 ∧ r.resmp1 &&& 0x02 = r.resmp1 := by
  cases r
  simp only [TiaRegs.kept, TiaRegs.mk.injEq]

/-- A latched position is a pixel coordinate (R42, R464). -/
theorem strobePosition_lt (hclock offset : Nat) : strobePosition hclock offset < 160 := by
  unfold strobePosition; omega

/-- So is a moved one (R42, R465). -/
theorem moved_lt (pos : Nat) (hm : Byte) : moved pos hm < 160 := by
  unfold moved; omega

/-- What a write to TIA write register `r` can do (R39, R460 to R466): replace one kind of state, in range. -/
inductive TiaWrite (f : FuturePixels) (t : Tia) (r : Nat) (v : Byte) : Tia → Prop
  | same : TiaWrite f t r v t
  | halt : TiaWrite f t r v { t with wsyncHalt := true }
  | regs (regs : TiaRegs) (h : t.regs.kept = t.regs → regs.kept = regs) : TiaWrite f t r v { t with regs := regs }
  | pos (pos : Positions) (h : t.pos.OnLine → pos.OnLine) : TiaWrite f t r v { t with pos := pos }
  | delay (reg : DelayedReg) : TiaWrite f t r v (t.delay f reg v)
  | clear (h : r = 0x2C) : TiaWrite f t r v { t with cx := Collisions.clear }

/-- `split` numbers the registers of the table from 1: case `h_3` is WSYNC, register `$02`. -/
theorem tia_write_cases (cfg : Config) (t : Tia) (r : Nat) (v : Byte) :
    TiaWrite cfg.futurePixels t r v (t.write cfg r v) := by
  unfold Tia.write
  split
  case h_3 => exact .halt
  case h_45 => exact .clear rfl
  case h_4 | h_46 => exact .same
  case h_14 | h_15 | h_16 | h_28 | h_29 | h_30 | h_31 | h_32 => exact .delay _
  case h_17 | h_18 | h_19 | h_20 | h_21 =>
    exact .pos _ fun h => by simp only [Positions.OnLine, h, strobePosition_lt, and_self]
  case h_43 => exact .pos _ fun _ => by simp only [Positions.OnLine, moved_lt, and_self]
  all_goals
    refine .regs _ fun h => ?_
    rw [kept_iff] at h ⊢
    simp only [h, BitVec.and_assoc, BitVec.and_self, and_self, show (0 : Byte) &&& 0xF0 = 0 from rfl]

/-! ### Collisions -/

theorem collisions_le_refl (c : Collisions) : c.Le c := by simp [Collisions.Le]

theorem collisions_le_trans {c d e : Collisions} (h : c.Le d) (k : d.Le e) : c.Le e := by
  obtain ⟨h1, h2, h3, h4, h5, h6, h7, h8, h9, h10, h11, h12, h13, h14, h15⟩ := h
  obtain ⟨k1, k2, k3, k4, k5, k6, k7, k8, k9, k10, k11, k12, k13, k14, k15⟩ := k
  exact ⟨k1 ∘ h1, k2 ∘ h2, k3 ∘ h3, k4 ∘ h4, k5 ∘ h5, k6 ∘ h6, k7 ∘ h7, k8 ∘ h8, k9 ∘ h9, k10 ∘ h10, k11 ∘ h11,
    k12 ∘ h12, k13 ∘ h13, k14 ∘ h14, k15 ∘ h15⟩

theorem collisions_le_latch (c : Collisions) (o : ObjectBits) : c.Le (c.latch o) := by
  simp +contextual [Collisions.Le, Collisions.latch]

theorem tia_tick_collisions (div : Nat) (t : Tia) : t.cx.Le (t.tick div).cx := by
  change t.cx.Le (t.beforeRender.collide).cx
  unfold Tia.collide
  split
  · exact collisions_le_latch _ _
  · exact collisions_le_refl _

theorem tickDevices_collisions (s : State) : s.tia.cx.Le (tickDevices s).tia.cx := by
  rw [tickDevices_tia]
  exact collisions_le_trans (collisions_le_trans (tia_tick_collisions _ (s.tia.sampleInputs s.input))
    (tia_tick_collisions _ _)) (tia_tick_collisions _ _)

theorem ready_collisions (s : State) : s.tia.cx.Le s.ready.tia.cx :=
  awaitRdy_rec (P := fun t => s.tia.cx.Le t.tia.cx) (fun t h => collisions_le_trans h (tickDevices_collisions t))
    (fun _ h => h) stallBound s (collisions_le_refl _)

/-- A TIA write elsewhere than to CXCLR leaves the latches (R463). -/
theorem tia_write_collisions (cfg : Config) (t : Tia) {r : Nat} (v : Byte) (h : r ≠ 0x2C) :
    (t.write cfg r v).cx = t.cx := by
  have hw := tia_write_cases cfg t r v
  generalize t.write cfg r v = u at hw
  cases hw with
  | clear hr => exact absurd hr h
  | _ => rfl

theorem memWrite_tia_of_target {a : Word} (v : Byte) (s : State) (h : busTarget a = .tia) :
    (memWrite a v s).tia = s.tia.write s.cfg (a.toNat % 64) v := by
  simp only [memWrite, writeTarget, h]; rfl

theorem memWrite_collisions (a : Word) (v : Byte) (s : State) (h : busTarget a = .tia → a.toNat % 64 ≠ 0x2C) :
    (memWrite a v s).tia.cx = s.tia.cx := by
  by_cases ht : busTarget a = .tia
  · rw [memWrite_tia_of_target v s ht]; exact tia_write_collisions _ _ _ (h ht)
  · rw [memWrite_tia a v s ht]

theorem cycleRead_collisions (a : Word) (s : State) : s.tia.cx.Le (cycleRead a s).2.tia.cx := by
  simpa [cycleRead] using ready_collisions s

theorem cycleWrite_collisions (a : Word) (v : Byte) (s : State) (h : busTarget a = .tia → a.toNat % 64 ≠ 0x2C) :
    s.tia.cx.Le (cycleWrite a v s).tia.cx := by
  simp only [cycleWrite, endCall_tia]
  rw [memWrite_collisions a v _ h]
  exact ready_collisions s

theorem collisions_of_cycles {r w : List Word} {s t : State} (h : Cycles r w s t)
    (hw : ∀ a ∈ w, busTarget a = .tia → a.toNat % 64 ≠ 0x2C) : s.tia.cx.Le t.tia.cx := by
  induction h with
  | refl s => exact collisions_le_refl _
  | read a _ ih => exact collisions_le_trans (ih hw) (cycleRead_collisions a _)
  | write a v _ ih =>
    exact collisions_le_trans (ih fun b hb => hw b (by simp [hb])) (cycleWrite_collisions a v _ (hw a (by simp)))
  | cpu f _ ih => exact ih hw
  | draws k _ ih => exact ih hw

theorem recordFault_tia (k : Shape) (s : State) : (recordFault k s).tia = s.tia := by
  cases k <;> rfl

/-- Settles O49: ticks only latch, and of the writes CXCLR alone clears. -/
theorem collisionLatchesOnlyRise : Obligations.CollisionLatchesOnlyRise := by
  intro i s t h hw
  obtain rfl := Host.Outcome.next.inj ((exec_eq_run i s).symm.trans h)
  have := collisions_of_cycles (run_cycles i.shape s) hw
  rwa [recordFault_tia] at this

end Sys2Proof.Proofs
end

section
/-! SUPPORT. The invariant of the machine (10_state.md R37 to R50), device by device and then through every cycle, and the
spacing of the future-pixel buffer (R46). -/

namespace Sys2Proof.Proofs

open Sys2Proof.Machine Sys2Proof.Laws

/-! ### The invariant of the TIA -/

theorem futurePixels_of_valid {c : Config} (h : c.Valid) (r : DelayedReg) :
    1 ≤ c.futurePixels.of r ∧ c.futurePixels.of r ≤ 9 := by
  obtain ⟨h1, h2, h3, h4, h5, h6, h7, h8, -⟩ := h
  cases r <;> assumption

theorem audioClockDiv_pos {c : Config} (h : c.Valid) : 1 ≤ c.audioClockDiv := by
  obtain ⟨-, -, -, -, -, -, -, -, hd⟩ := h
  exact hd

theorem toNat_le_of_and_mask {v m : Byte} (h : v &&& m = v) : v.toNat ≤ m.toNat := by
  rw [← h, BitVec.toNat_and]; exact Nat.and_le_right

/-- Ageing takes one clock off an entry, and only an entry with clocks left stays (R475). -/
theorem mem_keptPending {ws : List PendingWrite} {w : PendingWrite} (h : w ∈ keptPending ws) :
    ∃ u ∈ ws, w = { u with remaining := u.remaining - 1 } ∧ w.remaining ≠ 0 := by
  simp only [keptPending, agePending, List.mem_filter, List.mem_map] at h
  obtain ⟨⟨u, hu, rfl⟩, hne⟩ := h
  exact ⟨u, hu, rfl, by simpa using hne⟩

theorem pendingInRange_keptPending {ws : List PendingWrite} (h : PendingInRange ws) : PendingInRange (keptPending ws) := by
  intro w hw
  obtain ⟨u, hu, rfl, hne⟩ := mem_keptPending hw
  have := h u hu
  simp only at hne ⊢
  omega

theorem apply_pf0 (g : Graphics) (w : PendingWrite) (h : g.pf0 &&& 0x0F = 0) : (g.apply w).pf0 &&& 0x0F = 0 := by
  unfold Graphics.apply
  split
  · simp only [BitVec.and_assoc]
    rw [show (0xF0 : Byte) &&& 0x0F = 0 from rfl]; exact BitVec.and_zero
  all_goals exact h

theorem foldl_apply_pf0 (ws : List PendingWrite) : ∀ g : Graphics, g.pf0 &&& 0x0F = 0 →
    (ws.foldl Graphics.apply g).pf0 &&& 0x0F = 0 := by
  induction ws with
  | nil => exact fun _ h => h
  | cons w t ih => exact fun g h => ih _ (apply_pf0 g w h)

theorem onLine_lockMissiles (t : Tia) (h : t.pos.OnLine) : t.lockMissiles.pos.OnLine := by
  obtain ⟨h0, h1, h2, h3, h4⟩ := h
  simp only [Positions.OnLine, Tia.lockMissiles]
  exact ⟨h0, h1, by split <;> omega, by split <;> omega, h4⟩

/-- The prescaler stays below the divider and the two dividers below 32 (R45, R482). -/
theorem audioStep_inRange {div : Nat} (t : Tia) (hd : 1 ≤ div) (hk : t.regs.kept = t.regs)
    (h : t.audio.pre < div ∧ t.audio.div0 < 32 ∧ t.audio.div1 < 32) :
    (t.audioStep div).audio.pre < div ∧ (t.audioStep div).audio.div0 < 32 ∧ (t.audioStep div).audio.div1 < 32 := by
  have f0 : t.regs.audf0.toNat ≤ 31 := toNat_le_of_and_mask (congrArg TiaRegs.audf0 hk)
  have f1 : t.regs.audf1.toNat ≤ 31 := toNat_le_of_and_mask (congrArg TiaRegs.audf1 hk)
  simp only [Tia.audioStep, audioStepNow, beq_iff_eq]
  split
  · exact ⟨hd, by simp only; split <;> omega, by simp only; split <;> omega⟩
  · exact ⟨by simp only; omega, h.2⟩

theorem tia_tick_ok {div : Nat} {t : Tia} (hd : 1 ≤ div) (h : t.Ok div) : (t.tick div).Ok div := by
  obtain ⟨hc, hp, hw, hk, hg, ha⟩ := h
  refine ⟨?_, onLine_lockMissiles t.applyDelayed hp, pendingInRange_keptPending hw, hk,
    foldl_apply_pf0 _ _ hg, audioStep_inRange t.beforeRender.collide hd hk ha⟩
  rw [tia_tick_hclock]
  split <;> omega

theorem tia_write_ok {cfg : Config} {t : Tia} (r : Nat) (v : Byte) (hv : cfg.Valid) (h : t.Ok cfg.audioClockDiv) :
    (t.write cfg r v).Ok cfg.audioClockDiv := by
  obtain ⟨hc, hp, hw, hk, hg, ha⟩ := h
  have e := tia_write_cases cfg t r v
  generalize t.write cfg r v = u at e
  cases e with
  | regs regs hr => exact ⟨hc, hp, hw, hr hk, hg, ha⟩
  | pos pos hr => exact ⟨hc, hr hp, hw, hk, hg, ha⟩
  | delay reg =>
    refine ⟨hc, hp, fun w hm => ?_, hk, hg, ha⟩
    rcases List.mem_append.mp hm with hm | hm
    · exact hw w hm
    · rw [List.mem_singleton.mp hm]; exact futurePixels_of_valid hv reg
  | same | halt | clear => exact ⟨hc, hp, hw, hk, hg, ha⟩

/-- No register write moves the beam (R433). -/
theorem tia_write_hclock (cfg : Config) (t : Tia) (r : Nat) (v : Byte) : (t.write cfg r v).hclock = t.hclock := by
  have e := tia_write_cases cfg t r v
  generalize t.write cfg r v = u at e
  cases e <;> rfl

/-! ### The invariant of the RIOT -/

/-- The prescaler is below the interval (R50). -/
abbrev PrescaleInRange (r : Riot) : Prop := r.prescale < r.shift.ticks

theorem interval_ticks_pos (i : Interval) : 0 < i.ticks := by cases i <;> decide

theorem riot_tick_inRange {r : Riot} (h : PrescaleInRange r) : PrescaleInRange r.tick := by
  have := interval_ticks_pos r.shift
  unfold PrescaleInRange at h ⊢
  unfold Riot.tick
  split
  · exact h
  · split
    · split <;> simp only <;> omega
    · simp only; omega

theorem riot_ticks_inRange (n : Nat) : ∀ {r : Riot}, PrescaleInRange r → PrescaleInRange (Riot.ticks n r) := by
  induction n with
  | zero => exact fun h => h
  | succ n ih => exact fun h => ih (riot_tick_inRange h)

theorem riot_write_inRange {r : Riot} (a : Word) (v : Byte) (h : PrescaleInRange r) : PrescaleInRange (r.write a v) := by
  unfold Riot.write
  split_ifs
  · exact interval_ticks_pos _
  all_goals exact h

/-! ### The invariant of the cartridge -/

theorem cart_switched_ok {c : Cart} (o : Nat) (h : c.Ok) : (c.switched o).Ok := by
  obtain ⟨h1, h2, h3, h4, h5⟩ := h
  exact ⟨h1, h2, h3, by rw [← ramSize_congr (scheme_switch c.variant o)] at h4; exact h4, inRange_switch o h5⟩

theorem cart_store_ok {c : Cart} {o k : Nat} (v : Byte) (h : c.Ok) (hk : (c.switched o).locate o = .writePort k) :
    ({ c.switched o with ram := Memory.write c.ram k v } : Cart).Ok := by
  obtain ⟨h1, h2, h3, h4, h5⟩ := cart_switched_ok o h
  obtain ⟨-, -, -, -, hr⟩ := h
  have hlt := lt_ramSize_of_locate hr hk
  rw [← ramSize_congr (scheme_switch c.variant o)] at hlt
  exact ⟨h1, h2, wf_write _ _ h3, below_write _ h4 hlt, h5⟩

theorem cart_read_ok {c : Cart} (o : Nat) (fresh : Byte × Byte) (h : c.Ok) : (c.read o fresh).2.Ok := by
  rcases cart_read_cases c o fresh with e | ⟨k, hk, e⟩ <;> rw [e]
  · exact cart_switched_ok o h
  · exact cart_store_ok _ h hk

theorem cart_write_ok {c : Cart} (o : Nat) (v : Byte) (h : c.Ok) : (c.write o v).Ok := by
  rcases cart_write_cases c o v with e | ⟨k, hk, e⟩ <;> rw [e]
  · exact cart_switched_ok o h
  · exact cart_store_ok _ h hk

theorem cart_snoop_ok {c : Cart} (a : Nat) (d : Byte) (h : c.Ok) : (c.snoop a d).Ok := by
  obtain ⟨h1, h2, h3, h4, h5⟩ := h
  exact ⟨h1, h2, h3, by rw [← ramSize_congr (scheme_snoop c.variant a d)] at h4; exact h4, inRange_snoop a d h5⟩

/-! ### The invariant of the machine -/

/-- The invariant but for the color clock, which moves within a call (R433). -/
structure Sound (s : State) : Prop where
  cfg : s.cfg.Valid
  pipe : s.pipe = Latches.idle
  ramWf : Memory.wf s.ram
  ramBelow : Memory.below s.ram 128
  cart : s.cart.Ok
  tia : s.tia.Ok s.cfg.audioClockDiv
  riot : PrescaleInRange s.riot
  fault : FaultRecordOk s.cpuFault

theorem inv_iff (s : State) : s.Inv ↔ Sound s ∧ s.tia.hclock = 3 * s.cycleCounter % 228 :=
  ⟨fun ⟨h1, h2, h3, h4, h5, h6, h7, h8, h9⟩ => ⟨⟨h1, h2, h3, h4, h5, h6, h8, h9⟩, h7⟩,
    fun ⟨⟨h1, h2, h3, h4, h5, h6, h8, h9⟩, h7⟩ => ⟨h1, h2, h3, h4, h5, h6, h7, h8, h9⟩⟩

theorem sound_of_inv {s : State} (h : s.Inv) : Sound s := ((inv_iff s).mp h).1

namespace Sound

variable {s : State}

theorem tickDevices (h : Sound s) : Sound (tickDevices s) where
  cfg := by simpa using h.cfg
  pipe := by simpa using h.pipe
  ramWf := by simpa using h.ramWf
  ramBelow := by simpa using h.ramBelow
  cart := by simpa using h.cart
  tia := by
    have hd := audioClockDiv_pos h.cfg
    have hs : (s.tia.sampleInputs s.input).Ok s.cfg.audioClockDiv := h.tia
    rw [tickDevices_cfg, tickDevices_tia]
    exact tia_tick_ok hd (tia_tick_ok hd (tia_tick_ok hd hs))
  riot := by rw [tickDevices_riot]; exact riot_ticks_inRange _ h.riot
  fault := by simpa using h.fault

theorem endCall (h : Sound s) : Sound (endCall s) := ⟨h.1, h.2, h.3, h.4, h.5, h.6, h.7, h.8⟩

theorem ready (h : Sound s) : Sound s.ready := awaitRdy_rec (fun _ => tickDevices) (fun _ => endCall) stallBound s h

theorem mapCpu (h : Sound s) (f : Cpu → Cpu) : Sound (s.mapCpu f) := ⟨h.1, h.2, h.3, h.4, h.5, h.6, h.7, h.8⟩

theorem withDraws (h : Sound s) (k : Nat) : Sound (s.withDraws k) := ⟨h.1, h.2, h.3, h.4, h.5, h.6, h.7, h.8⟩

theorem withCart (h : Sound s) {c : Cart} (hc : c.Ok) : Sound (s.withCart c) := ⟨h.1, h.2, h.3, h.4, hc, h.6, h.7, h.8⟩

theorem snoopBus (h : Sound s) (a : Word) (d : Byte) : Sound (snoopBus a d s) := h.withCart (cart_snoop_ok _ d h.cart)

theorem memRead (h : Sound s) (a : Word) : Sound (memRead a s).2 := by
  have ht : Sound (readTarget a s).2 := by
    unfold readTarget
    split
    · exact h.withDraws _
    · exact h
    · rcases riot_read_cases s.riot s.input a with e | e
      all_goals exact ⟨h.1, h.2, h.3, h.4, h.5, h.6, by simp only [readRiot, withRiot_riot, e]; exact h.riot, h.8⟩
    · exact (h.withCart (cart_read_ok _ _ h.cart)).withDraws _
  exact ht.snoopBus a _

theorem memWrite (h : Sound s) (a : Word) (v : Byte) : Sound (memWrite a v s) := by
  have ht : Sound (writeTarget a v s) := by
    unfold writeTarget
    split
    · exact ⟨h.1, h.2, h.3, h.4, h.5, tia_write_ok _ v h.cfg h.tia, h.7, h.8⟩
    · rename_i i hi
      have hlt : i < 128 := by
        unfold busTarget at hi
        split_ifs at hi
        cases hi
        omega
      exact ⟨h.1, h.2, wf_write _ _ h.ramWf, below_write _ h.ramBelow hlt, h.5, h.6, h.7, h.8⟩
    · exact ⟨h.1, h.2, h.3, h.4, h.5, h.6, riot_write_inRange a v h.riot, h.8⟩
    · exact h.withCart (cart_write_ok _ v h.cart)
  exact ht.snoopBus a _

end Sound

theorem memWrite_hclock (a : Word) (v : Byte) (s : State) : (memWrite a v s).tia.hclock = s.tia.hclock := by
  by_cases ht : busTarget a = .tia
  · rw [memWrite_tia_of_target v s ht, tia_write_hclock]
  · rw [memWrite_tia a v s ht]

theorem inv_cycleRead {s : State} (a : Word) (h : s.Inv) : (cycleRead a s).2.Inv := by
  rw [inv_iff] at h ⊢
  refine ⟨(h.1.ready.memRead a).endCall, ?_⟩
  simp only [cycleRead, endCall_tia, endCall_cycleCounter, memRead_tia, (memRead_keeps a s.ready).cycleCounter]
  exact awaitRdy_hclock stallBound s h.2

theorem inv_cycleWrite {s : State} (a : Word) (v : Byte) (h : s.Inv) : (cycleWrite a v s).Inv := by
  rw [inv_iff] at h ⊢
  refine ⟨(h.1.ready.memWrite a v).endCall, ?_⟩
  simp only [cycleWrite, endCall_tia, endCall_cycleCounter, memWrite_hclock, (memWrite_keeps a v s.ready).cycleCounter]
  exact awaitRdy_hclock stallBound s h.2

theorem inv_of_cycles {r w : List Word} {s t : State} (h : Cycles r w s t) (hs : s.Inv) : t.Inv := by
  induction h with
  | refl s => exact hs
  | read a _ ih => exact inv_cycleRead a (ih hs)
  | write a v _ ih => exact inv_cycleWrite a v (ih hs)
  | cpu f _ ih => exact ih hs
  | draws k _ ih => exact ih hs

theorem inv_recordFault {s : State} (i : Instr) (h : s.Inv) : (recordFault i.shape s).Inv := by
  unfold recordFault
  split
  · rename_i opcode hk
    rw [inv_iff] at h ⊢
    refine ⟨{ h.1 with fault := fun u hu => ?_ }, h.2⟩
    cases hu
    exact (undocumented_of_shape hk).2
  · exact h

theorem inv_fetch {s : State} (h : s.Inv) : (fetch s).2.Inv := by
  obtain ⟨r, -, hc⟩ := fetch_cycles s
  rw [inv_iff] at h
  exact inv_of_cycles hc ((inv_iff _).mpr ⟨{ h.1 with pipe := rfl }, h.2⟩)

theorem inv_run {s : State} (i : Instr) (h : s.Inv) : (run i.shape s).Inv :=
  inv_of_cycles (run_cycles i.shape s) (inv_recordFault i h)

/-- A call in which only the devices move keeps the invariant (R430, R433). -/
theorem inv_idleCall {s : State} (h : s.Inv) : (endCall (tickDevices s)).Inv := by
  rw [inv_iff] at h ⊢
  refine ⟨h.1.tickDevices.endCall, ?_⟩
  simp only [endCall_tia, endCall_cycleCounter, tickDevices_cycleCounter, tickDevices_hclock s h.1.tia.1, h.2]
  omega

/-- Settles O9: the invariant holds through every cycle, and a step from an instruction boundary is made of cycles, or is
a call in which only the devices move. -/
theorem stepKeepsTheInvariant : Obligations.StepKeepsTheInvariant := by
  intro s t h hst
  rcases step_cases hst with ⟨-, rfl⟩ | ⟨-, hp, -⟩ | ⟨-, -, rfl⟩
  · exact inv_idleCall h
  · rw [(sound_of_inv h).pipe] at hp; exact absurd rfl hp
  · exact inv_run _ (inv_fetch h)

/-! ### The future-pixel buffer -/

/-- The entries, newest first, lie three clocks apart, the newest at most `9 - c` clocks from its end (R46). -/
def SpacedFrom (c : Nat) (ws : List PendingWrite) : Prop :=
  match ws with
  | [] => True
  | w :: t => w.remaining + c ≤ 9 ∧ SpacedFrom (c + 3) t

theorem spacedFrom_iff (ws : List PendingWrite) : ∀ c, SpacedFrom c ws ↔
    ∀ j (h : j < ws.length), ws[j].remaining + 3 * j + c ≤ 9 := by
  induction ws with
  | nil => simp [SpacedFrom]
  | cons w t ih =>
    intro c
    rw [SpacedFrom, ih]
    constructor
    · rintro ⟨h0, h⟩ (_ | j) hj
      · simpa using h0
      · have := h j (by simpa using hj)
        simp only [List.getElem_cons_succ]; omega
    · intro h
      have h0 := h 0 (Nat.succ_pos _)
      refine ⟨by simpa only [List.getElem_cons_zero, Nat.mul_zero, Nat.add_zero] using h0, fun j hj => ?_⟩
      have := h (j + 1) (by simpa using hj)
      simp only [List.getElem_cons_succ] at this; omega

theorem pendingSpaced_iff (ws : List PendingWrite) : PendingSpaced ws ↔ SpacedFrom 0 ws.reverse := by
  simp [PendingSpaced, spacedFrom_iff]

theorem spacedFrom_mono {ws : List PendingWrite} : ∀ {c d : Nat}, c ≤ d → SpacedFrom d ws → SpacedFrom c ws := by
  induction ws with
  | nil => exact fun _ h => h
  | cons w t ih => exact fun hcd h => ⟨le_trans (by omega) h.1, ih (by omega) h.2⟩

/-- The entries that stay after a clock have a clock more of room (R475). -/
theorem spacedFrom_keptPending {ws : List PendingWrite} : ∀ {c : Nat}, SpacedFrom c ws →
    SpacedFrom (c + 1) (keptPending ws) := by
  induction ws with
  | nil => exact fun _ => trivial
  | cons w t ih =>
    intro c h
    have ht : SpacedFrom (c + 1 + 3) (keptPending t) := by
      have := ih h.2
      rwa [show c + 3 + 1 = c + 1 + 3 by omega] at this
    have e : keptPending (w :: t) =
        if w.remaining - 1 = 0 then keptPending t else { w with remaining := w.remaining - 1 } :: keptPending t := by
      by_cases hw : w.remaining - 1 = 0 <;> simp [keptPending, agePending, hw]
    rw [e]
    split
    · exact spacedFrom_mono (by omega) ht
    · have := h.1
      exact ⟨by simp only; omega, ht⟩

theorem keptPending_reverse (ws : List PendingWrite) : (keptPending ws).reverse = keptPending ws.reverse := by
  simp [keptPending, agePending, List.filter_reverse]

/-- The buffer of `s` is spaced, with `c` clocks of room before a new entry. -/
def Room (c : Nat) (s : State) : Prop := SpacedFrom c s.tia.pending.reverse

theorem room_of_tia {s t : State} {c d : Nat} (e : t.tia = s.tia) (hcd : c ≤ d) (h : Room d s) : Room c t := by
  rw [Room, e]; exact spacedFrom_mono hcd h

theorem room_tickDevices {s : State} (h : Room 0 s) : Room 3 (tickDevices s) := by
  have e : (tickDevices s).tia.pending = keptPending (keptPending (keptPending s.tia.pending)) := rfl
  rw [Room, e, keptPending_reverse, keptPending_reverse, keptPending_reverse]
  exact spacedFrom_keptPending (spacedFrom_keptPending (spacedFrom_keptPending h))

theorem room_ready {s : State} (h : Room 0 s) : Room 3 s.ready :=
  awaitRdy_rec (fun _ => room_tickDevices) (fun t => room_of_tia (endCall_tia t) (by omega)) stallBound s h

/-- A write adds at most one entry, with at most nine clocks to go (R46, R460). -/
theorem tia_write_spaced {cfg : Config} {t : Tia} (r : Nat) (v : Byte) (hv : cfg.Valid)
    (h : SpacedFrom 3 t.pending.reverse) : SpacedFrom 0 (t.write cfg r v).pending.reverse := by
  have e := tia_write_cases cfg t r v
  generalize t.write cfg r v = u at e
  cases e with
  | delay reg =>
    simp only [Tia.delay, List.reverse_append, List.reverse_singleton, List.singleton_append]
    exact ⟨(futurePixels_of_valid hv reg).2, h⟩
  | _ => exact spacedFrom_mono (by omega) h

theorem room_memWrite {s : State} (a : Word) (v : Byte) (hv : s.cfg.Valid) (h : Room 3 s) : Room 0 (memWrite a v s) := by
  by_cases ht : busTarget a = .tia
  · rw [Room, memWrite_tia_of_target v s ht]; exact tia_write_spaced _ v hv h
  · exact room_of_tia (memWrite_tia a v s ht) (by omega) h

theorem room_cycleRead {s : State} (a : Word) (h : Room 0 s) : Room 0 (cycleRead a s).2 :=
  room_of_tia (memRead_tia a s.ready) (by omega) (room_ready h)

theorem room_cycleWrite {s : State} (a : Word) (v : Byte) (hv : s.cfg.Valid) (h : Room 0 s) : Room 0 (cycleWrite a v s) :=
  room_memWrite a v (by rw [(ready_timeOnly s).cfg]; exact hv) (room_ready h)

theorem room_of_cycles {r w : List Word} {s t : State} (h : Cycles r w s t) (hv : s.cfg.Valid) (hs : Room 0 s) :
    Room 0 t := by
  induction h with
  | refl s => exact hs
  | read a _ ih => exact room_cycleRead a (ih hv hs)
  | write a v hc ih => exact room_cycleWrite a v (by rw [hc.cfg]; exact hv) (ih hv hs)
  | cpu f _ ih => exact ih hv hs
  | draws k _ ih => exact ih hv hs

theorem room_step {s t : State} (hi : s.Inv) (h : Room 0 s) (hst : step s = .next t) : Room 0 t := by
  rcases step_cases hst with ⟨-, rfl⟩ | ⟨-, hp, -⟩ | ⟨-, -, rfl⟩
  · exact room_of_tia (endCall_tia _) (by omega) (room_tickDevices h)
  · rw [(sound_of_inv hi).pipe] at hp; exact absurd rfl hp
  · obtain ⟨r, -, hf⟩ := fetch_cycles s
    have hs : Room 0 (fetch s).2 := room_of_cycles hf (sound_of_inv hi).cfg h
    exact room_of_cycles (run_cycles _ _) (sound_of_inv (inv_recordFault _ (inv_fetch hi))).cfg
      (room_of_tia (recordFault_tia _ _) (le_refl _) hs)

/-- A fourth entry would have no clock to go. -/
theorem length_le_three {ws : List PendingWrite} (hr : PendingInRange ws) (h : PendingSpaced ws) : ws.length ≤ 3 := by
  by_contra hlt
  have h3 := h 3 (by omega)
  have := (hr (ws.reverse[3]'(by simp; omega)) (List.mem_reverse.mp (List.getElem_mem _))).1
  omega

/-- Settles O10: each call takes three clocks off every entry and each cycle adds at most one. -/
theorem stepKeepsThePendingBound : Obligations.StepKeepsThePendingBound := by
  intro s t hi h hst
  have ht := (pendingSpaced_iff _).mpr (room_step hi ((pendingSpaced_iff _).mp h) hst)
  obtain ⟨-, -, -, -, -, ⟨-, -, hr, -⟩, -⟩ := stepKeepsTheInvariant s t hi hst
  exact ⟨ht, length_le_three hr ht⟩

end Sys2Proof.Proofs
end

section
/-! SUPPORT. What every step carries on: parameters, ROM, scheme, a recorded fault, the call counter and the sinks
(10_state.md R33, R34, R37, R52), for whole instructions and for single cycles. -/

namespace Sys2Proof.Proofs

open Sys2Proof.Machine Sys2Proof.Laws

/-! ### What no step changes -/

/-- From `s` to `t` the parameters, the ROM and the scheme stay, a recorded fault stays recorded, the call counter does
not fall, and the sinks are only appended to (R33, R34, R37, R52). -/
structure Continues (s t : State) : Prop where
  cfg : t.cfg = s.cfg
  rom : t.cart.rom = s.cart.rom
  romSize : t.cart.romSize = s.cart.romSize
  tag : t.cart.tag = s.cart.tag
  scheme : t.cart.variant.scheme = s.cart.variant.scheme
  fault : s.cpuFault.isSome = true → t.cpuFault.isSome = true
  counter : s.cycleCounter ≤ t.cycleCounter
  video : ∃ l, t.video = l ++ s.video
  audioOut : ∃ l, t.audioOut = l ++ s.audioOut

namespace Continues

variable {s t u : State}

@[simp] theorem refl (s : State) : Continues s s :=
  ⟨rfl, rfl, rfl, rfl, rfl, id, le_refl _, ⟨[], rfl⟩, ⟨[], rfl⟩⟩

theorem trans (h : Continues s t) (k : Continues t u) : Continues s u where
  cfg := k.cfg.trans h.cfg
  rom := k.rom.trans h.rom
  romSize := k.romSize.trans h.romSize
  tag := k.tag.trans h.tag
  scheme := k.scheme.trans h.scheme
  fault := k.fault ∘ h.fault
  counter := le_trans h.counter k.counter
  video := by
    obtain ⟨l, hl⟩ := h.video
    obtain ⟨m, hm⟩ := k.video
    exact ⟨m ++ l, by rw [hm, hl, List.append_assoc]⟩
  audioOut := by
    obtain ⟨l, hl⟩ := h.audioOut
    obtain ⟨m, hm⟩ := k.audioOut
    exact ⟨m ++ l, by rw [hm, hl, List.append_assoc]⟩

theorem of_access (h : AccessKeeps s t) : Continues s t where
  cfg := h.cfg
  rom := h.rom
  romSize := h.romSize
  tag := h.tag
  scheme := h.scheme
  fault := by rw [h.cpuFault]; exact id
  counter := h.cycleCounter.ge
  video := ⟨[], h.video⟩
  audioOut := ⟨[], h.audioOut⟩

@[simp] theorem memRead (a : Word) (s : State) : Continues s (memRead a s).2 := of_access (memRead_keeps a s)

@[simp] theorem memWrite (a : Word) (v : Byte) (s : State) : Continues s (memWrite a v s) :=
  of_access (memWrite_keeps a v s)

/-! Registers, latches and the draw counter are not spoken of. -/

@[simp] theorem mapCpu_iff (f : Cpu → Cpu) : Continues s (t.mapCpu f) ↔ Continues s t :=
  ⟨fun ⟨h1, h2, h3, h4, h5, h6, h7, h8, h9⟩ => ⟨h1, h2, h3, h4, h5, h6, h7, h8, h9⟩,
    fun ⟨h1, h2, h3, h4, h5, h6, h7, h8, h9⟩ => ⟨h1, h2, h3, h4, h5, h6, h7, h8, h9⟩⟩

@[simp] theorem withPipe_iff (p : Latches) : Continues s (t.withPipe p) ↔ Continues s t :=
  ⟨fun ⟨h1, h2, h3, h4, h5, h6, h7, h8, h9⟩ => ⟨h1, h2, h3, h4, h5, h6, h7, h8, h9⟩,
    fun ⟨h1, h2, h3, h4, h5, h6, h7, h8, h9⟩ => ⟨h1, h2, h3, h4, h5, h6, h7, h8, h9⟩⟩

@[simp] theorem mapPipe_iff (f : Latches → Latches) : Continues s (t.mapPipe f) ↔ Continues s t := withPipe_iff _

@[simp] theorem continueInstr_iff : Continues s (continueInstr t) ↔ Continues s t := mapPipe_iff _

@[simp] theorem finishInstr_iff : Continues s (finishInstr t) ↔ Continues s t := withPipe_iff _

@[simp] theorem withDraws_iff (k : Nat) : Continues s (t.withDraws k) ↔ Continues s t :=
  ⟨fun ⟨h1, h2, h3, h4, h5, h6, h7, h8, h9⟩ => ⟨h1, h2, h3, h4, h5, h6, h7, h8, h9⟩,
    fun ⟨h1, h2, h3, h4, h5, h6, h7, h8, h9⟩ => ⟨h1, h2, h3, h4, h5, h6, h7, h8, h9⟩⟩

theorem raiseUnimplemented (pc : Word) (opcode : Byte) (h : Continues s t) :
    Continues s (raiseUnimplemented pc opcode t) := { h with fault := fun _ => rfl }

/-! Time. -/

theorem tickTia (s : State) : Continues s (tickTia s) :=
  ⟨rfl, rfl, rfl, rfl, rfl, id, le_refl _, ⟨_, rfl⟩, ⟨_, rfl⟩⟩

theorem tickDevices (s : State) : Continues s (tickDevices s) := by
  have h0 : Continues s (s.withTia (s.tia.sampleInputs s.input)) := { refl s with }
  have h3 := ((h0.trans (tickTia _)).trans (tickTia _)).trans (tickTia _)
  exact { h3 with }

theorem endCall (h : Continues s t) : Continues s (endCall t) := { h with counter := Nat.le_succ_of_le h.counter }

theorem ready (s : State) : Continues s s.ready :=
  awaitRdy_rec (fun t h => h.trans (tickDevices t)) (fun _ => endCall) stallBound s (refl s)

theorem cycleRead (a : Word) (s : State) : Continues s (cycleRead a s).2 :=
  ((ready s).trans (memRead a _)).endCall

theorem cycleWrite (a : Word) (v : Byte) (s : State) : Continues s (cycleWrite a v s) :=
  ((ready s).trans (memWrite a v _)).endCall

theorem of_cycles {r w : List Word} (h : Cycles r w s t) : Continues s t := by
  induction h with
  | refl s => exact refl s
  | read a _ ih => exact ih.trans (cycleRead a _)
  | write a v _ ih => exact ih.trans (cycleWrite a v _)
  | cpu f _ ih => rwa [mapCpu_iff]
  | draws k _ ih => rwa [withDraws_iff]

@[simp] theorem readOp (op : ReadOp) (m : Byte) (h : Continues s t) : Continues s (op.apply m t) :=
  h.trans (of_cycles (readOp_cycles op m t))

end Continues

/-! ### One cycle of an instruction in progress -/

section

variable (s : State)

@[simp] theorem continues_operandRead : Continues s (operandRead s).2 := by simp [operandRead]

@[simp] theorem continues_discard (a : Word) : Continues s (Machine.discard a s) := by simp [Machine.discard]

@[simp] theorem continues_stackRead : Continues s (stackRead s).2 := by simp [stackRead]

@[simp] theorem continues_pushAccess (v : Byte) : Continues s (pushAccess v s) := by simp [pushAccess]

@[simp] theorem continues_latchOperand (f : Latches → Byte → Latches) : Continues s (latchOperand f s) := by
  simp [latchOperand]

@[simp] theorem continues_latchRead (f : Latches → Byte → Latches) (a : Word) : Continues s (latchRead f a s) := by
  simp [latchRead]

@[simp] theorem continues_addressCycle (o : MemOperand) (n : Nat) : Continues s (o.addressCycle n s) := by
  unfold MemOperand.addressCycle
  dsimp only
  split <;> simp

theorem continues_shapeCycle (k : Shape) (n : Nat) : Continues s (k.cycle n s) := by
  cases k with
  | implied op => simp [Shape.cycle]
  | acc op => simp [Shape.cycle]
  | read op o =>
    cases o with
    | imm v => simp [Shape.cycle]
    | mem o => simp only [Shape.cycle, readCycleOf]; split <;> simp
  | store r o => simp only [Shape.cycle, storeCycleOf]; split <;> simp
  | rmw op o => simp only [Shape.cycle, rmwCycleOf]; split_ifs <;> simp
  | branch b d =>
    simp only [Shape.cycle, branchCycleOf]
    split
    · split <;> simp
    · split <;> simp
    · simp
  | jmpAbs a => simp only [Shape.cycle, jmpAbsCycle]; split <;> simp
  | jmpInd a => simp only [Shape.cycle, jmpIndCycle]; split <;> simp
  | jsr a => simp only [Shape.cycle, jsrCycle]; split <;> simp
  | rts => simp only [Shape.cycle, rtsCycle]; split <;> simp
  | push r => simp only [Shape.cycle, pushCycle]; split <;> simp
  | pull r => simp only [Shape.cycle, pullCycle]; split <;> simp
  | brk => simp only [Shape.cycle, brkCycle]; split <;> simp
  | rti => simp only [Shape.cycle, rtiCycle]; split <;> simp
  | undocumented opcode => simp [Shape.cycle]

theorem continues_fetchCycle : Continues s (fetchCycle s) := by
  have h := (continues_operandRead s).raiseUnimplemented s.cpu.pc (operandRead s).1
  unfold fetchCycle
  dsimp only
  split
  · split
    · simpa using h
    · simpa using h
  · simp

theorem continues_stepCycle : Continues s (stepCycle s) := by
  unfold stepCycle
  split_ifs
  · exact .refl s
  · exact continues_fetchCycle s
  · exact continues_shapeCycle s _ _

end

/-- A call continues the machine, and is counted (R430). -/
theorem continues_advance (s : State) : Continues s (advance s) ∧ s.cycleCounter < (advance s).cycleCounter := by
  have h : Continues s (if (tickDevices s).stalled then tickDevices s else stepCycle (tickDevices s)) := by
    split
    · exact .tickDevices s
    · exact (Continues.tickDevices s).trans (continues_stepCycle _)
  exact ⟨h.endCall, Nat.lt_succ_of_le h.counter⟩

theorem continues_singleStep (n : Nat) : ∀ s : State, Continues s (singleStep n s) := by
  induction n with
  | zero => exact .refl
  | succ n ih =>
    intro s
    rw [singleStep]
    split
    · exact (continues_advance s).1
    · exact (continues_advance s).1.trans (ih _)

/-- At least one call passes. -/
theorem lt_singleStep_counter {n : Nat} (hn : 1 ≤ n) (s : State) : s.cycleCounter < (singleStep n s).cycleCounter := by
  obtain ⟨n, rfl⟩ : ∃ m, n = m + 1 := ⟨n - 1, by omega⟩
  rw [singleStep]
  split
  · exact (continues_advance s).2
  · exact lt_of_lt_of_le (continues_advance s).2 (continues_singleStep n _).counter

theorem continues_recordFault (k : Shape) (s : State) : Continues s (recordFault k s) := by
  unfold recordFault
  split
  · exact (Continues.refl s).raiseUnimplemented _ _
  · exact .refl s

theorem continues_run (k : Shape) (s : State) : Continues s (run k s) :=
  (continues_recordFault k s).trans (.of_cycles (run_cycles k s))

/-- Every cycle is a call of its own (R430). -/
theorem counter_of_cycles {r w : List Word} {s t : State} (h : Cycles r w s t) :
    s.cycleCounter + r.length + w.length ≤ t.cycleCounter := by
  induction h with
  | refl s => simp
  | @read _ _ s t a _ ih =>
    have h : t.cycleCounter < (cycleRead a t).2.cycleCounter :=
      Nat.lt_succ_of_le ((Continues.ready t).trans (.memRead a _)).counter
    simp only [List.length_append, List.length_singleton]; omega
  | @write _ _ s t a v _ ih =>
    have h : t.cycleCounter < (cycleWrite a v t).cycleCounter :=
      Nat.lt_succ_of_le ((Continues.ready t).trans (.memWrite a v _)).counter
    simp only [List.length_append, List.length_singleton]; omega
  | cpu f _ ih => exact ih
  | draws k _ ih => exact ih

/-- A fetch continues the machine, and its cycles are counted (R121, R430). -/
theorem continues_fetch (s : State) : Continues s (fetch s).2 ∧ s.cycleCounter < (fetch s).2.cycleCounter := by
  obtain ⟨r, hr, hc⟩ := fetch_cycles s
  have h0 : Continues s (s.withPipe Latches.idle) := by simp
  have := counter_of_cycles hc
  have := List.length_pos_iff.mpr hr
  exact ⟨h0.trans (.of_cycles hc), by simp only [withPipe_cycleCounter] at *; omega⟩

theorem continues_step {s t : State} (h : step s = .next t) : Continues s t ∧ s.cycleCounter < t.cycleCounter := by
  rcases step_cases h with ⟨-, rfl⟩ | ⟨-, -, rfl⟩ | ⟨-, -, rfl⟩
  · exact ⟨(Continues.tickDevices s).endCall, Nat.lt_succ_of_le (Continues.tickDevices s).counter⟩
  · exact ⟨continues_singleStep _ s, lt_singleStep_counter (by decide) s⟩
  · have hr := continues_run (fetch s).1.shape (fetch s).2
    exact ⟨(continues_fetch s).1.trans hr, lt_of_lt_of_le (continues_fetch s).2 hr.counter⟩

/-- Settles O11: accesses, register updates and ticks keep the parameters and append to the sinks, and every step passes at
least one call. -/
theorem stepKeepsTheParameters : Obligations.StepKeepsTheParameters := by
  intro s t h
  obtain ⟨⟨h1, h2, h3, h4, h5, h6, -, h8, h9⟩, hc⟩ := continues_step h
  exact ⟨h1, h2, h3, h4, h5, h6, hc, h8, h9⟩

end Sys2Proof.Proofs
end

section
/-! SUPPORT. The stored B flag commutes with every cycle and every meaning (10_state.md R27). -/

namespace Sys2Proof.Proofs

open Sys2Proof.Machine Sys2Proof.Laws

/-- The machine with the stored B flag replaced (R27). -/
def withB (b : Bool) (s : State) : State := s.mapCpu fun c => { c with b := b }

section

variable (b : Bool) (s : State)

@[simp] theorem withB_cpu : (withB b s).cpu = { s.cpu with b := b } := rfl

@[simp] theorem withB_cfg : (withB b s).cfg = s.cfg := rfl

@[simp] theorem withB_withPipe (p : Latches) : (withB b s).withPipe p = withB b (s.withPipe p) := rfl

/-- A register update that neither reads nor writes B can be made before B is replaced. -/
theorem withB_mapCpu {f : Cpu → Cpu} (h : ∀ c : Cpu, f { c with b := b } = { f c with b := b }) :
    (withB b s).mapCpu f = withB b (s.mapCpu f) := by
  simp only [withB, State.mapCpu, withCpu_cpu, h]; rfl

/-- One that does not read B and writes it gives the same machine. -/
theorem withB_mapCpu_of_writes {f : Cpu → Cpu} (h : ∀ c : Cpu, f { c with b := b } = f c) :
    (withB b s).mapCpu f = s.mapCpu f := by
  simp only [withB, State.mapCpu, withCpu_cpu, h]; rfl

/-! No Bus access, no stall and no tick looks at B. -/

@[simp] theorem cycleRead_withB (a : Word) : cycleRead a (withB b s) = ((cycleRead a s).1, withB b (cycleRead a s).2) :=
  cycleRead_mapCpu a s _

@[simp] theorem cycleDummy_withB (a : Word) : cycleDummy a (withB b s) = withB b (cycleDummy a s) := cycleDummy_mapCpu a s _

@[simp] theorem cycleWrite_withB (a : Word) (v : Byte) : cycleWrite a v (withB b s) = withB b (cycleWrite a v s) :=
  cycleWrite_mapCpu a v s _

@[simp] theorem push_withB (v : Byte) : push v (withB b s) = withB b (push v s) := by
  simp only [push, cycleWrite_withB, withB_cpu]
  exact withB_mapCpu b _ fun _ => rfl

@[simp] theorem pull_withB : pull (withB b s) = ((pull s).1, withB b (pull s).2) := by
  rw [pull, withB_mapCpu b s fun _ => rfl, cycleRead_withB]; rfl

@[simp] theorem fetchByte_withB : fetchByte (withB b s) = ((fetchByte s).1, withB b (fetchByte s).2) := by
  simp only [fetchByte, cycleRead_withB, withB_cpu]
  rw [withB_mapCpu b _ fun _ => rfl]

/-! ### Operands -/

@[simp] theorem readPointer_withB (z : Byte) :
    readPointer z (withB b s) = ((readPointer z s).1, withB b (readPointer z s).2) := by
  simp [readPointer]

@[simp] theorem base_withB (o : MemOperand) :
    o.base (withB b s) = ((o.base s).1, (o.base s).2.1, withB b (o.base s).2.2) := by
  cases o <;> simp [MemOperand.base]

@[simp] theorem address_withB (o : MemOperand) : o.address (withB b s) = ((o.address s).1, withB b (o.address s).2) := by
  simp only [MemOperand.address, base_withB]
  split <;> simp

@[simp] theorem readOperand_withB (o : ReadOperand) : o.read (withB b s) = ((o.read s).1, withB b (o.read s).2) := by
  cases o with
  | imm v => rfl
  | mem o =>
    simp only [ReadOperand.read, MemOperand.read, base_withB]
    split_ifs <;> simp

theorem readOp_withB (op : ReadOp) (m : Byte) : op.apply m (withB b s) = withB b (op.apply m s) := by
  have alu : ∀ binary decimal, addSubtract binary decimal m (withB b s) = withB b (addSubtract binary decimal m s) := by
    intro binary decimal
    rw [addSubtract, addSubtract, show (withB b s).cpu.d = s.cpu.d from rfl, withB_cfg]
    split
    · split
      · exact withB_mapCpu b s fun _ => rfl
      · rfl
    · exact withB_mapCpu b s fun _ => rfl
  cases op
  case adc | sbc => exact alu _ _
  all_goals rfl

/-! ### Instructions -/

theorem jsrPrelude_withB : jsrPrelude (withB b s) = withB b (jsrPrelude s) := by simp [jsrPrelude]

theorem trapEntry_withB : trapEntry (withB b s) = trapEntry s := by
  simp only [trapEntry, push_withB, withB_cpu, cycleRead_withB]
  exact withB_mapCpu_of_writes b _ fun _ => rfl

theorem trapReturn_withB : trapReturn (withB b s) = trapReturn s := by
  simp only [trapReturn, cycleDummy_withB, withB_cpu, pull_withB]
  rw [withB_mapCpu_of_writes b _ fun _ => rfl]

theorem holds_withB (c : Cond) : c.holds { s.cpu with b := b } = c.holds s.cpu := by cases c <;> rfl

/-- The machines that an instruction leaves from `withB b s` and from `s` differ in B at most. -/
def DiffersInB (t u : State) : Prop := ∃ b, u = withB b t

theorem differsInB_of_eq {t u : State} (h : u = t) : DiffersInB t u := ⟨t.cpu.b, h⟩

/-- An instruction that runs from a machine with another B leaves the same machine but for B. -/
theorem run_withB (k : Shape) : DiffersInB (run k s) (run k (withB b s)) := by
  cases k with
  | implied op =>
    refine ⟨b, ?_⟩
    simp only [run, runImplied, withB_cpu, cycleDummy_withB]
    exact withB_mapCpu b _ fun _ => by cases op <;> rfl
  | acc op =>
    refine ⟨b, ?_⟩
    simp only [run, runAcc, withB_cpu, cycleDummy_withB]
    exact withB_mapCpu b _ fun _ => rfl
  | read op o => exact ⟨b, by simp only [run, runRead, readOperand_withB, readOp_withB]⟩
  | store r o =>
    refine ⟨b, ?_⟩
    simp only [run, runStore, address_withB, cycleWrite_withB]
    cases r <;> rfl
  | rmw op o =>
    refine ⟨b, ?_⟩
    simp only [run, runRmw, address_withB, cycleRead_withB, cycleWrite_withB]
    exact withB_mapCpu b _ fun _ => rfl
  | branch c d =>
    refine ⟨b, ?_⟩
    simp only [run, runBranch, withB_cpu, holds_withB, cycleDummy_withB]
    split_ifs <;> rfl
  | jmpAbs a => exact ⟨b, rfl⟩
  | jmpInd p =>
    refine ⟨b, ?_⟩
    simp only [run, runJmpInd, cycleRead_withB]
    exact withB_mapCpu b _ fun _ => rfl
  | jsr a =>
    refine ⟨b, ?_⟩
    simp only [run, runJsr, jsrPrelude_withB, cycleDummy_withB, withB_cpu]
    exact withB_mapCpu b _ fun _ => rfl
  | rts =>
    refine ⟨b, ?_⟩
    simp only [run, runRts, withB_cpu, pull_withB, cycleDummy_withB]
    exact withB_mapCpu b _ fun _ => rfl
  | push r =>
    refine ⟨b, ?_⟩
    simp only [run, runPush, withB_cpu, cycleDummy_withB, push_withB]
    cases r <;> rfl
  | pull r =>
    simp only [run, runPull, withB_cpu, cycleDummy_withB, pull_withB]
    cases r with
    | a => exact ⟨b, withB_mapCpu b _ fun _ => rfl⟩
    | p => exact differsInB_of_eq (withB_mapCpu_of_writes b _ fun _ => rfl)
  | brk =>
    refine differsInB_of_eq ?_
    simp only [run, runBrk, withB_cpu, cycleDummy_withB]
    rw [withB_mapCpu b _ fun _ => rfl, trapEntry_withB]
  | rti =>
    refine differsInB_of_eq ?_
    simp only [run, runRti, withB_cpu, cycleDummy_withB, trapReturn_withB]
  | undocumented opcode =>
    refine ⟨b, ?_⟩
    have h : raiseUnimplemented (s.cpu.pc - 1) opcode (withB b s) =
        withB b (raiseUnimplemented (s.cpu.pc - 1) opcode s) := rfl
    simp only [run, undocumented, withB_cpu, withB_cfg, h, cycleDummy_withB]
    split <;> rfl

theorem fetch_withB : fetch (withB b s) = ((fetch s).1, withB b (fetch s).2) := by
  simp only [fetch, fetchBytes, withB_withPipe, fetchByte_withB, jsrHighByte, withB_cpu, jsrPrelude_withB, cycleRead_withB]
  split
  · rfl
  · rfl
  · split_ifs <;> rfl

end

/-- Settles O12: no fetch and no meaning reads the stored B; of the meanings that write it none keeps the old one. -/
theorem bFlagIsNotObservable : Obligations.BFlagIsNotObservable := by
  intro s t b hp h
  change ∃ b', step (withB b s) = .next (withB b' t)
  rcases step_cases h with ⟨hs, rfl⟩ | ⟨-, hp', -⟩ | ⟨hs, -, rfl⟩
  · exact ⟨b, step_of_stuck (s := withB b s) hs⟩
  · exact absurd hp hp'
  · obtain ⟨b', e⟩ := run_withB b (fetch s).2 (fetch s).1.shape
    exact ⟨b', by rw [step_of_boundary (s := withB b s) hs hp, fetch_withB, e]⟩

end Sys2Proof.Proofs
end

section
/-! SUPPORT. TIA reads (10_state.md R40), reads of plain code (20_memory.md R71), construction from an image
(20_memory.md R79, R89 to R98), capture and restore (10_state.md R58). -/

namespace Sys2Proof.Proofs

open Sys2Proof.Machine Sys2Proof.Laws

/-! ### TIA reads -/

@[simp] theorem tiaByte_bit7 (hi : Bool × Bool) (low : BitVec 6) : (tiaByte hi low).getLsbD 7 = hi.1 := by
  simp only [tiaByte, BitVec.getLsbD_append]
  simp

@[simp] theorem tiaByte_bit6 (hi : Bool × Bool) (low : BitVec 6) : (tiaByte hi low).getLsbD 6 = hi.2 := by
  simp only [tiaByte, BitVec.getLsbD_append]
  simp

@[simp] theorem tiaByte_low (hi : Bool × Bool) (low : BitVec 6) : (tiaByte hi low).extractLsb' 0 6 = low := by
  ext i h
  simp only [tiaByte, BitVec.getElem_extractLsb', BitVec.getLsbD_append]
  simp [h, show i < 7 by omega]

theorem memRead_of_tia {a : Word} (h : busTarget a = .tia) (s : State) :
    (memRead a s).1 =
      tiaByte (s.tia.read s.input (a.toNat % 16)) (s.cfg.tiaReadLow.getD ((s.fresh 0).setWidth 6)) := by
  simp only [memRead, readTarget, h, readTia]

/-- The read table as a list, by the register's number (R40, R480). -/
theorem tia_read_eq (t : Tia) (inp : Inputs) {r : Nat} (hr : r < 16) :
    t.read inp r =
      [(t.cx.m0p1, t.cx.m0p0), (t.cx.m1p0, t.cx.m1p1), (t.cx.p0pf, t.cx.p0bl), (t.cx.p1pf, t.cx.p1bl),
        (t.cx.m0pf, t.cx.m0bl), (t.cx.m1pf, t.cx.m1bl), (t.cx.blpf, false), (t.cx.p0p1, t.cx.m0m1),
        (if t.regs.vblank.getLsbD 7 then false else inp.in0, false),
        (if t.regs.vblank.getLsbD 7 then false else inp.in1, false),
        (if t.regs.vblank.getLsbD 7 then false else inp.in2, false),
        (if t.regs.vblank.getLsbD 7 then false else inp.in3, false),
        (if t.regs.vblank.getLsbD 6 then t.inpt4Latch else inp.in4, false),
        (if t.regs.vblank.getLsbD 6 then t.inpt5Latch else inp.in5, false), (false, false), (false, false)].getD
        r (false, false) := by
  have dump : ∀ d x : Bool, (if d then false else x) = (!d && x) := by decide
  simp only [dump]
  interval_cases r <;> rfl

/-- The ticks of a call leave the input latches as the sample set them (R49, R480). -/
theorem tickDevices_inputLatches (s : State) :
    (tickDevices s).tia.inpt4Latch = (s.tia.sampleInputs s.input).inpt4Latch ∧
      (tickDevices s).tia.inpt5Latch = (s.tia.sampleInputs s.input).inpt5Latch := ⟨rfl, rfl⟩

/-- Settles O55: a TIA read drives bits 7 and 6 from the table and keeps the TIA; ticks keep the sampled latches. -/
theorem tiaReads : Obligations.TiaReads := by
  refine ⟨fun a s h => ⟨?_, fun l hl => ?_, memRead_tia a s⟩, fun s => ⟨?_, ?_⟩⟩
  · rw [memRead_of_tia h, tiaByte_bit7, tiaByte_bit6]
    exact tia_read_eq s.tia s.input (Nat.mod_lt _ (by omega))
  · rw [memRead_of_tia h, tiaByte_low, hl]; rfl
  · rw [(tickDevices_inputLatches s).1, Tia.sampleInputs]
    cases s.input.in4 <;> simp
  · rw [(tickDevices_inputLatches s).2, Tia.sampleInputs]
    cases s.input.in5 <;> simp

/-! ### Reading plain code -/

/-- An access at which the `fe` scheme does not snoop leaves the bank state (R95). -/
theorem snoop_of_not_snoops {v : Variant} {a : Word} (d : Byte) (h : v.snoops a = false) : v.snoop (busAddress a) d = v := by
  cases v with
  | fe bank1 armed =>
    simp only [Variant.snoops, Bool.or_eq_false_iff] at h
    simp [Variant.snoop, h.1, h.2]
  | _ => rfl

theorem snoopBus_of_not_snoops {s : State} {a : Word} (d : Byte) (h : s.cart.variant.snoops a = false) :
    snoopBus a d s = s := by
  simp only [snoopBus, Cart.snoop, snoop_of_not_snoops d h]; rfl

theorem readTarget_of_peek {s : State} {a : Word} {v : Byte} (hh : s.hotAddress a = false) (h : peek a s = some v) :
    readTarget a s = (v, s) := by
  unfold peek at h
  unfold State.hotAddress at hh
  unfold readTarget
  split at h
  · cases h
  · rename_i i ha
    cases h
    rfl
  · cases h
  · rename_i o ha
    simp only [ha] at hh ⊢
    have hs : s.cart.switched o = s.cart := by simp only [Cart.switched, switch_of_not_hot hh]
    split at h <;> rename_i i hi <;> cases h <;>
      simp only [readCart, Cart.read, Cart.readsWritePort, hs, hi] <;> rfl

/-- A read of plain code gives its byte and changes nothing (R71). -/
theorem memRead_of_codeByte {s : State} {a : Word} {v : Byte} (h : s.codeByte a = some v) : memRead a s = (v, s) := by
  unfold State.codeByte at h
  split at h
  · cases h
  · rename_i hc
    simp only [Bool.or_eq_true, not_or, Bool.not_eq_true] at hc
    simp only [memRead, readTarget_of_peek hc.2 h, snoopBus_of_not_snoops v hc.1]

/-! ### Construction -/

/-- What a read gives after a sequence is stored: its bytes where it lies, elsewhere what it gave before. -/
theorem read_writeBytes (vs : List Byte) : ∀ (m : Memory) (a k : Nat), Memory.read (Memory.writeBytes m a vs) k =
    if a ≤ k ∧ k < a + vs.length then vs.getD (k - a) 0 else Memory.read m k := by
  induction vs with
  | nil => simp [Memory.writeBytes]
  | cons v t ih =>
    intro m a k
    rw [Memory.writeBytes, ih, read_write]
    by_cases hk : k = a
    · simp [hk]
    · by_cases hlt : a < k
      · obtain ⟨j, rfl⟩ : ∃ j, k = a + 1 + j := ⟨k - (a + 1), by omega⟩
        simp [show a + 1 + j - a = j + 1 by omega, show a + 1 + j < a + (t.length + 1) ↔ j < t.length by omega,
          show a ≤ a + 1 + j by omega, hk]
      · simp [hk, show ¬ a + 1 ≤ k by omega, show ¬ a ≤ k by omega]

/-- The cells of the ROM of an image are its bytes (R37, R89). -/
theorem read_image (image : List Byte) (k : Nat) : Memory.read (Memory.writeBytes [] 0 image) k = image.getD k 0 := by
  rw [read_writeBytes]
  split
  · simp
  · rw [List.getD_eq_default _ _ (by omega)]; rfl

/-- The bank count, hot range and extra RAM that a scheme and an image size select, in the power-on state (R90 to R98). -/
def initialVariant (cartE : HotScheme) (p : PowerOn) (tag : SchemeTag) (n : Nat) : Variant :=
  match tag with
  | .singleBank => .single
  | .default =>
    if n = 8192 then .hot ⟨2, 0xFF8, 0xFF9, 0⟩ p.bank
    else if n = 12288 then .hot ⟨3, 0xFF8, 0xFFA, 256⟩ p.bank
    else if n = 16384 then .hot ⟨4, 0xFF6, 0xFF9, 0⟩ p.bank
    else if n = 32768 then .hot ⟨8, 0xFF4, 0xFFB, 0⟩ p.bank
    else .single
  | .f4 => .hot ⟨8, 0xFF4, 0xFFB, 0⟩ p.bank
  | .fe => .fe false false
  | .e => .hot cartE p.bank
  | .super =>
    if n = 8192 then .hot ⟨2, 0xFF8, 0xFF9, 128⟩ p.bank
    else if n = 16384 then .hot ⟨4, 0xFF6, 0xFF9, 128⟩ p.bank
    else .hot ⟨8, 0xFF4, 0xFFB, 128⟩ p.bank
  | .pb => .pb p.seg0 p.seg1 p.seg2
  | .mnet => .mnet p.mnetLo p.mnetRp
  | .cbs => .hot ⟨3, 0xFF8, 0xFFA, 256⟩ p.bank

/-- Where a scheme accepts an image size, its variant is that of the table (R89 to R98). -/
theorem resolveVariant_eq {cartE : HotScheme} {p : PowerOn} {tag : SchemeTag} {n : Nat} {v : Variant}
    (h : resolveVariant cartE p tag n = some v) : v = initialVariant cartE p tag n := by
  cases tag <;> simp only [resolveVariant, hotBySize, initialVariant] at h ⊢
  case default =>
    split_ifs at h with h1 h2 h3 h4 h5 <;> cases h
    · rcases h1 with rfl | rfl <;> rfl
    all_goals
      subst n
      rfl
  case super =>
    split_ifs at h with h1 h2 h3 <;> cases h
    all_goals
      subst n
      rfl
  all_goals
    split at h <;> cases h
    rfl

/-- The variants under which the top four bytes of the window are plain code: not hot, no RAM write port, no switch of the
`fe` snoop pending. -/
inductive VectorPlain : Variant → Prop
  | single : VectorPlain .single
  | hot (p : HotScheme) (bank : Nat) (hHi : p.hHi < 0xFFC) (hRam : p.ramSize ≤ 0xFFC) : VectorPlain (.hot p bank)
  | fe (bank1 : Bool) : VectorPlain (.fe bank1 false)
  | pb (seg0 seg1 seg2 : Nat) : VectorPlain (.pb seg0 seg1 seg2)
  | mnet (lo rp : Nat) : VectorPlain (.mnet lo rp)

theorem initialVariant_vectorPlain {cartE : HotScheme} (p : PowerOn) (tag : SchemeTag) (n : Nat)
    (hHi : cartE.hHi < 0xFFC) (hRam : cartE.ramSize ≤ 0xFFC) : VectorPlain (initialVariant cartE p tag n) := by
  cases tag <;> simp only [initialVariant]
  case default =>
    split_ifs
    · exact .hot _ _ (by decide) (by decide)
    · exact .hot _ _ (by decide) (by decide)
    · exact .hot _ _ (by decide) (by decide)
    · exact .hot _ _ (by decide) (by decide)
    · exact .single
  case super => split_ifs <;> exact .hot _ _ (by decide) (by decide)
  case singleBank => exact .single
  case f4 => exact .hot _ _ (by decide) (by decide)
  case cbs => exact .hot _ _ (by decide) (by decide)
  case e => exact .hot _ _ hHi hRam
  case fe => exact .fe _
  case pb => exact .pb _ _ _
  case mnet => exact .mnet _ _

theorem locate_ne_writePort {c : Cart} {o : Nat} (h : VectorPlain c.variant) (ho : 0xFFC ≤ o) (i : Nat) :
    c.locate o ≠ .writePort i := by
  unfold Cart.locate
  generalize c.variant = v at h
  cases h with
  | hot p bank hHi hRam =>
    simp only
    rw [if_neg (by omega)]
    split <;> exact nofun
  | mnet lo rp =>
    simp only
    rw [if_neg (by omega), if_neg (by omega), if_neg (by omega)]
    exact nofun
  | _ => exact nofun

theorem peek_isSome {s : State} {a : Word} {o : Nat} (ha : busTarget a = .cart o)
    (h : ∀ i, s.cart.locate o ≠ .writePort i) : ∃ b, peek a s = some b := by
  simp only [peek, ha]
  cases hl : s.cart.locate o with
  | rom i => exact ⟨_, rfl⟩
  | readPort i => exact ⟨_, rfl⟩
  | writePort i => exact absurd hl (h i)

theorem codeByte_of_vectorPlain {s : State} {a : Word} {o : Nat} (h : VectorPlain s.cart.variant)
    (ha : busTarget a = .cart o) (ho : 0xFFC ≤ o) (hb : busAddress a ≠ 0x1FE) :
    ∃ b, s.codeByte a = some b ∧ peek a s = some b := by
  obtain ⟨b, hp⟩ := peek_isSome ha (locate_ne_writePort h ho)
  have hs : s.cart.variant.snoops a = false := by
    generalize s.cart.variant = v at h
    cases h <;> simp [Variant.snoops, hb]
  have hh : s.hotAddress a = false := by
    simp only [State.hotAddress, ha]
    generalize s.cart.variant = v at h
    cases h <;> simp [Variant.hotOffset] <;> omega
  exact ⟨b, by simp [State.codeByte, hs, hh, hp], hp⟩

/-- The CPU's `reset()` with the vector in plain code (R501, R502). -/
theorem cpuReset_of_codeByte {s : State} {lo hi : Byte} (hl : s.codeByte 0xFFFC = some lo)
    (hh : s.codeByte 0xFFFD = some hi) : cpuReset s = { s with
      cpu := { s.cpu with pc := wordOf hi lo, i := false, b := false }, pipe := Latches.idle, cpuFault := none } := by
  simp only [cpuReset, memRead_of_codeByte hl, memRead_of_codeByte hh]
  rfl

/-- The cartridge of an image that its scheme accepts (R37, R89). -/
theorem makeCart_eq {cfg : Config} {p : PowerOn} {tag : SchemeTag} {image : List Byte} {c : Cart}
    (h : makeCart cfg p tag image = some c) :
    c = ⟨tag, image.length, Memory.writeBytes [] 0 image, initialVariant cfg.cartE p tag image.length, p.cartRam⟩ := by
  obtain ⟨v, hv, rfl⟩ := Option.map_eq_some_iff.mp h
  rw [resolveVariant_eq hv]

theorem loadCartridge_next {cfg : Config} {p : PowerOn} {tag : SchemeTag} {image : List Byte} {t : State}
    (h : loadCartridge cfg p tag image = .next t) :
    ∃ c, makeCart cfg p tag image = some c ∧ t = cpuReset (State.powerOn cfg p c) := by
  unfold loadCartridge at h
  split at h
  · rename_i c hc
    exact ⟨c, hc, (Host.Outcome.next.inj h).symm⟩
  · cases h

/-- Settles O57: the resolved variant is the table's, and the vector's reads find plain code, so that the machine under
construction keeps every other value. -/
theorem constructionValues : Obligations.ConstructionValues := by
  intro cfg p tag image t hHi hRam h
  obtain ⟨c, hc, ht⟩ := loadCartridge_next h
  have hplain : VectorPlain c.variant := by
    rw [makeCart_eq hc]; exact initialVariant_vectorPlain p tag _ hHi hRam
  have vector (a : Word) (o : Nat) (ha : busTarget a = .cart o) (ho : 0xFFC ≤ o) (hb : busAddress a ≠ 0x1FE) :=
    codeByte_of_vectorPlain (s := State.powerOn cfg p c) hplain ha ho hb
  obtain ⟨lo, hl, hlp⟩ := vector 0xFFFC 0xFFC rfl (by decide) (by decide)
  obtain ⟨hi, hh, hhp⟩ := vector 0xFFFD 0xFFD rfl (by decide) (by decide)
  rw [cpuReset_of_codeByte hl hh] at ht
  subst ht
  refine ⟨⟨lo, hi, hlp, hhp, rfl⟩, rfl, rfl, rfl, rfl, ?_⟩
  change c.variant = _ ∧ c.tag = tag ∧ c.romSize = image.length ∧ c.ram = p.cartRam ∧
    (∀ k, Memory.read c.rom k = image.getD k 0) ∧ _
  obtain rfl := makeCart_eq hc
  exact ⟨rfl, rfl, rfl, rfl, read_image image, rfl, rfl, rfl⟩

/-- Settles O8. -/
theorem resetMeetsTheInvariant : Obligations.ResetMeetsTheInvariant :=
  ⟨by decide, rfl, wf_nil, nofun, ⟨wf_nil, nofun, wf_nil, nofun, rfl⟩, by decide, rfl, by decide, nofun⟩

/-- Settles O59: a capture holds all that a restore replaces, and the rest of the cartridge is compared. -/
theorem snapshotRestores : Obligations.SnapshotRestores := by
  intro s t k
  refine ⟨fun h => if_neg h, fun h => ⟨_, if_pos h⟩, fun h h1 h2 h3 => ?_, fun h hne => ?_⟩
  all_goals
    unfold capture at h
    split at h <;> cases h
  · simp only [restore, Snapshot.Fits, h1, h2, h3, and_self, if_true]
  · rw [restore, if_neg]
    rintro ⟨-, h1, h2, h3⟩
    exact hne ⟨h1.symm, h2.symm, h3.symm⟩

end Sys2Proof.Proofs
end

section
/-! SUPPORT. The Bus and the cartridge: the decode and its mirrors (20_memory.md R61 to R68), RAM (R65, R80), the cells
of the window and the bank switches of every scheme (R79 to R100). -/

namespace Sys2Proof.Proofs

open Sys2Proof.Machine Sys2Proof.Laws

/-! ### The decode -/

theorem busTarget_cart {a : Word} (h12 : a.getLsbD 12 = true) : busTarget a = .cart (a.toNat % 4096) := if_pos h12

theorem busTarget_tia {a : Word} (h12 : a.getLsbD 12 = false) (h7 : a.getLsbD 7 = false) : busTarget a = .tia := by
  rw [busTarget, h12, h7]
  rfl

theorem busTarget_ram {a : Word} (h12 : a.getLsbD 12 = false) (h7 : a.getLsbD 7 = true) (h9 : a.getLsbD 9 = false) :
    busTarget a = .ram (a.toNat % 128) := by
  rw [busTarget, h12, h7, h9]
  rfl

theorem busTarget_riot {a : Word} (h12 : a.getLsbD 12 = false) (h7 : a.getLsbD 7 = true) (h9 : a.getLsbD 9 = true) :
    busTarget a = .riot := by
  rw [busTarget, h12, h7, h9]
  rfl

/-- RAM has 128 cells (R65). -/
theorem ram_cell_lt {a : Word} {k : Nat} (h : busTarget a = .ram k) : k < 128 := by
  unfold busTarget at h
  split_ifs at h
  cases h
  omega

theorem memRead_of_ram {a : Word} {k : Nat} (h : busTarget a = .ram k) (s : State) :
    (memRead a s).1 = Memory.read s.ram k := by
  simp only [memRead, readTarget, h]

theorem memWrite_of_ram {a : Word} {k : Nat} (h : busTarget a = .ram k) (v : Byte) (s : State) :
    (memWrite a v s).ram = Memory.write s.ram k v := by
  simp only [memWrite, writeTarget, h]
  rfl

theorem memRead_of_riot {a : Word} (h : busTarget a = .riot) (s : State) :
    memRead a s = ((s.riot.read s.input a).1,
      snoopBus a (s.riot.read s.input a).1 (s.withRiot (s.riot.read s.input a).2)) := by
  simp only [memRead, readTarget, h, readRiot]

theorem memWrite_of_riot {a : Word} (h : busTarget a = .riot) (v : Byte) (s : State) :
    (memWrite a v s).riot = s.riot.write a v := by
  simp only [memWrite, writeTarget, h]
  rfl

/-- Settles O36: the branches of the decode, and what an access does at the target each one selects. -/
theorem busDecode : Obligations.BusDecode := by
  intro a v s
  refine ⟨busTarget_cart, fun h12 h7 => ?_, fun h12 h7 h9 => ?_, fun h12 h7 h9 => ?_⟩
  · have h := busTarget_tia h12 h7
    refine ⟨h, memWrite_tia_of_target v s h, ?_⟩
    rw [memRead_of_tia h, tiaByte_bit7, tiaByte_bit6]
  · have h := busTarget_ram h12 h7 h9
    exact ⟨h, memRead_of_ram h s, memWrite_of_ram h v s⟩
  · have h := busTarget_riot h12 h7 h9
    exact ⟨h, memRead_of_riot h s, memWrite_of_riot h v s⟩

/-! ### Mirrors -/

/-- The 13 significant bits are the remainder by 8192 (R61). -/
theorem toNat_mirror (a : Word) : (a &&& 0x1FFF).toNat = a.toNat % 8192 := by
  rw [BitVec.toNat_and]
  exact Nat.and_two_pow_sub_one_eq_mod a.toNat 13

/-- An address field of at most 13 bits is the same at the mirror. -/
theorem mod_mirror (a : Word) {n : Nat} (h : n ∣ 8192) : (a &&& 0x1FFF).toNat % n = a.toNat % n := by
  rw [toNat_mirror, Nat.mod_mod_of_dvd _ h]

theorem getLsbD_mirror (a : Word) {i : Nat} (h : i < 13) : (a &&& 0x1FFF).getLsbD i = a.getLsbD i := by
  have hm : ∀ j < 13, (0x1FFF : Word).getLsbD j = true := by decide
  rw [BitVec.getLsbD_and, hm i h, Bool.and_true]

theorem busTarget_mirror (a : Word) : busTarget (a &&& 0x1FFF) = busTarget a := by
  simp only [busTarget, getLsbD_mirror a (show 12 < 13 by decide), getLsbD_mirror a (show 7 < 13 by decide),
    getLsbD_mirror a (show 9 < 13 by decide), mod_mirror a (show 4096 ∣ 8192 by decide),
    mod_mirror a (show 128 ∣ 8192 by decide)]

theorem busAddress_mirror (a : Word) : busAddress (a &&& 0x1FFF) = busAddress a := mod_mirror a (dvd_refl 8192)

theorem snoopBus_mirror (a : Word) (d : Byte) (s : State) : snoopBus (a &&& 0x1FFF) d s = snoopBus a d s := by
  rw [snoopBus, busAddress_mirror, ← snoopBus]

theorem riot_read_mirror (r : Riot) (inp : Inputs) (a : Word) : r.read inp (a &&& 0x1FFF) = r.read inp a := by
  simp only [Riot.read, getLsbD_mirror a (show 2 < 13 by decide), getLsbD_mirror a (show 1 < 13 by decide),
    getLsbD_mirror a (show 0 < 13 by decide)]

theorem riot_write_mirror (r : Riot) (a : Word) (v : Byte) : r.write (a &&& 0x1FFF) v = r.write a v := by
  simp only [Riot.write, getLsbD_mirror a (show 4 < 13 by decide), getLsbD_mirror a (show 2 < 13 by decide),
    getLsbD_mirror a (show 1 < 13 by decide), getLsbD_mirror a (show 0 < 13 by decide),
    mod_mirror a (show 4 ∣ 8192 by decide)]

theorem readTarget_mirror (a : Word) (s : State) : readTarget (a &&& 0x1FFF) s = readTarget a s := by
  simp only [readTarget, busTarget_mirror, readTia, readRiot, riot_read_mirror, mod_mirror a (show 16 ∣ 8192 by decide)]

theorem writeTarget_mirror (a : Word) (v : Byte) (s : State) : writeTarget (a &&& 0x1FFF) v s = writeTarget a v s := by
  simp only [writeTarget, busTarget_mirror, riot_write_mirror, mod_mirror a (show 64 ∣ 8192 by decide)]

/-- Settles O37: the decode, the fields of the targets and the snoop read address bits 12 to 0 only. -/
theorem addressMirrors : Obligations.AddressMirrors := by
  intro a v s
  constructor
  · simp only [memRead, readTarget_mirror, snoopBus_mirror]
  · simp only [memWrite, writeTarget_mirror, snoopBus_mirror]

/-! ### RAM -/

theorem cycleRead_of_ram {a : Word} {k : Nat} (h : busTarget a = .ram k) (s : State) :
    (cycleRead a s).1 = Memory.read s.ram k := by
  rw [cycleRead, memRead_of_ram h, (ready_timeOnly s).ram]

theorem cycleRead_ram (a : Word) (s : State) : (cycleRead a s).2.ram = s.ram := by
  rw [cycleRead, endCall_ram, memRead_ram, (ready_timeOnly s).ram]

/-- A write cycle changes a RAM cell only where its address selects that cell (R65). -/
theorem read_cycleWrite_ram (a : Word) (v : Byte) (s : State) (k : Nat) :
    Memory.read (cycleWrite a v s).ram k = if busTarget a = .ram k then v else Memory.read s.ram k := by
  rw [cycleWrite, endCall_ram, memWrite_ram, (ready_timeOnly s).ram]

/-- Settles O38: an access reaches a cell through the number its address decodes to, whichever the address. -/
theorem ramReadsTheLastWrite : Obligations.RamReadsTheLastWrite := by
  intro a b v s k ha
  have written : Memory.read (cycleWrite a v s).ram k = v := by rw [read_cycleWrite_ram, if_pos ha]
  refine ⟨ram_cell_lt ha, cycleRead_of_ram ha s, cycleRead_ram a s, written, fun j hj => ?_, fun hb => ?_⟩
  · have hne : busTarget a ≠ .ram j := by
      rw [ha]
      exact fun h => hj (BusTarget.ram.inj h).symm
    rw [read_cycleWrite_ram, if_neg hne]
  · rw [cycleRead_of_ram hb, written]

/-! ### The cells of the window

`(c.switched o).locate o` is the cell that an access at offset `o` reaches (R86, R88). -/

section

variable {c : Cart} {o i : Nat}

theorem cart_read_rom (fresh : Byte × Byte) (h : (c.switched o).locate o = .rom i) :
    c.read o fresh = (Memory.read c.rom i, c.switched o) := by
  simp only [Cart.read, h]
  rfl

theorem cart_read_readPort (fresh : Byte × Byte) (h : (c.switched o).locate o = .readPort i) :
    c.read o fresh = (Memory.read c.ram i, c.switched o) := by
  simp only [Cart.read, h]
  rfl

theorem cart_read_writePort (fresh : Byte × Byte) (h : (c.switched o).locate o = .writePort i) :
    c.read o fresh = (fresh.1, { c.switched o with ram := Memory.write c.ram i fresh.2 }) := by
  simp only [Cart.read, h]
  rfl

theorem cart_write_rom (v : Byte) (h : (c.switched o).locate o = .rom i) : c.write o v = c.switched o := by
  simp only [Cart.write, h]

theorem cart_write_readPort (v : Byte) (h : (c.switched o).locate o = .readPort i) : c.write o v = c.switched o := by
  simp only [Cart.write, h]

theorem cart_write_writePort (v : Byte) (h : (c.switched o).locate o = .writePort i) :
    c.write o v = { c.switched o with ram := Memory.write c.ram i v } := by
  simp only [Cart.write, h]
  rfl

theorem locate_single (h : c.variant = .single) : c.locate o = .rom (o % c.romSize) := by
  simp only [Cart.locate, h]

/-- The generic scheme: the RAM's write port, its read port, and beyond them the bank (R79, R88). -/
theorem locate_hot {p : HotScheme} {bank : Nat} (h : c.variant = .hot p bank) :
    (o < p.ramSize → c.locate o = .writePort o) ∧
    (p.ramSize ≤ o → o < 2 * p.ramSize → c.locate o = .readPort (o - p.ramSize)) ∧
    (2 * p.ramSize ≤ o → c.locate o = .rom (bank * 4096 + o)) := by
  simp only [Cart.locate, h]
  refine ⟨fun h1 => if_pos h1, fun h1 h2 => ?_, fun h2 => ?_⟩
  · rw [if_neg (by omega), if_pos h2]
  · rw [if_neg (by omega), if_neg (by omega)]

theorem locate_fe {bank1 armed : Bool} (h : c.variant = .fe bank1 armed) :
    c.locate o = .rom ((if bank1 then 1 else 0) * 4096 + o) := by
  simp only [Cart.locate, h]
  cases bank1 <;> rfl

/-- `pb`: the segment of the quarter in which the offset lies, the last quarter fixed (R96). -/
theorem locate_pb {s0 s1 s2 : Nat} (h : c.variant = .pb s0 s1 s2) (ho : o < 4096) :
    c.locate o = .rom ([s0, s1, s2, 7].getD (o / 1024) 7 * 1024 + o % 1024) := by
  simp only [Cart.locate, h]
  have quarter : o / 1024 = 0 ∧ o < 0x400 ∨ o / 1024 = 1 ∧ 0x400 ≤ o ∧ o < 0x800 ∨
      o / 1024 = 2 ∧ 0x800 ≤ o ∧ o < 0xC00 ∨ o / 1024 = 3 ∧ 0xC00 ≤ o := by omega
  rcases quarter with ⟨hq, h0⟩ | ⟨hq, h0, h1⟩ | ⟨hq, h0, h1⟩ | ⟨hq, h0⟩ <;> rw [hq]
  · rw [if_pos h0]; rfl
  · rw [if_neg (by omega), if_pos h1]; rfl
  · rw [if_neg (by omega), if_neg (by omega), if_pos h1]; rfl
  · rw [if_neg (by omega), if_neg (by omega), if_neg (by omega)]; rfl

/-- `mnet`: the lower half shows a ROM segment or, as segment 7, `ram1k`; above it a page of `ram256`, then the fixed top
segment (R98). -/
theorem locate_mnet {lo rp : Nat} (h : c.variant = .mnet lo rp) :
    (o < 0x800 → lo < 7 → c.locate o = .rom (lo * 2048 + o)) ∧
    (o < 0x400 → lo = 7 → c.locate o = .writePort o) ∧
    (0x400 ≤ o → o < 0x800 → lo = 7 → c.locate o = .readPort (o - 0x400)) ∧
    (0x800 ≤ o → o < 0x900 → c.locate o = .writePort (1024 + rp * 256 + (o - 0x800))) ∧
    (0x900 ≤ o → o < 0xA00 → c.locate o = .readPort (1024 + rp * 256 + (o - 0x900))) ∧
    (0xA00 ≤ o → c.locate o = .rom (7 * 2048 + (o - 0x800))) := by
  simp only [Cart.locate, h]
  refine ⟨fun h1 hlo => ?_, fun h1 hlo => ?_, fun h1 h2 hlo => ?_, fun h1 h2 => ?_, fun h1 h2 => ?_, fun h1 => ?_⟩
  · rw [if_pos h1, if_neg (by omega)]
  · rw [if_pos (by omega), if_pos hlo, if_pos h1]
  · rw [if_pos h2, if_pos hlo, if_neg (by omega)]
  · rw [if_neg (by omega), if_pos h2]
  · rw [if_neg (by omega), if_neg (by omega), if_pos h2]
  · rw [if_neg (by omega), if_neg (by omega), if_neg (by omega)]

end

/-! ### Accesses in the window -/

section

variable {a : Word} {o i : Nat} {s : State}

theorem memRead_rom (ha : busTarget a = .cart o) (h : (s.cart.switched o).locate o = .rom i) :
    (memRead a s).1 = Memory.read s.cart.rom i := by
  rw [(memRead_window ha s).1, cart_read_rom _ h]

theorem memRead_readPort (ha : busTarget a = .cart o) (h : (s.cart.switched o).locate o = .readPort i) :
    (memRead a s).1 = Memory.read s.cart.ram i := by
  rw [(memRead_window ha s).1, cart_read_readPort _ h]

/-- The two accesses at a ROM cell: the byte of the cell, the switch and the snoop, nothing stored (R87). -/
theorem accesses_rom (v : Byte) (ha : busTarget a = .cart o) (h : (s.cart.switched o).locate o = .rom i) :
    (memRead a s).1 = Memory.read s.cart.rom i ∧ (memRead a s).2.cart.ram = s.cart.ram ∧
    (memWrite a v s).cart.rom = s.cart.rom ∧ (memWrite a v s).cart.ram = s.cart.ram ∧
    (memWrite a v s).cart.variant = (s.cart.variant.switch o).snoop (busAddress a) v := by
  rw [(memRead_window ha s).2, memWrite_window ha, cart_read_rom _ h, cart_write_rom _ h]
  exact ⟨memRead_rom ha h, rfl, rfl, rfl, rfl⟩

/-- The two accesses at a read port: the byte of the cell, nothing stored (R88). -/
theorem accesses_readPort (v : Byte) (ha : busTarget a = .cart o) (h : (s.cart.switched o).locate o = .readPort i) :
    (memRead a s).1 = Memory.read s.cart.ram i ∧ (memRead a s).2.cart.ram = s.cart.ram ∧
    (memWrite a v s).cart.ram = s.cart.ram := by
  rw [(memRead_window ha s).2, memWrite_window ha, cart_read_readPort _ h, cart_write_readPort _ h]
  exact ⟨memRead_readPort ha h, rfl, rfl⟩

/-- The two accesses at a write port: both change that cell at most, and a write stores its byte there (R88). -/
theorem accesses_writePort (v : Byte) (ha : busTarget a = .cart o) (h : (s.cart.switched o).locate o = .writePort i) :
    Memory.read (memWrite a v s).cart.ram i = v ∧
    (∀ j, j ≠ i → Memory.read (memWrite a v s).cart.ram j = Memory.read s.cart.ram j) ∧
    ∀ j, j ≠ i → Memory.read (memRead a s).2.cart.ram j = Memory.read s.cart.ram j := by
  rw [(memRead_window ha s).2, memWrite_window ha, cart_read_writePort _ h, cart_write_writePort _ h]
  exact ⟨read_write_same _ _ _, fun j hj => read_write_other _ _ _ hj, fun j hj => read_write_other _ _ _ hj⟩

end

/-- Settles O39: the accesses at the three kinds of cell, and the window of each scheme. -/
theorem cartridgeCells : Obligations.CartridgeCells := by
  exact ⟨fun a o v s ha => ⟨fun i => accesses_rom v ha, fun i => accesses_readPort v ha, fun i => accesses_writePort v ha⟩,
    fun c o ho => ⟨locate_single, fun p bank => locate_hot, fun bank1 armed => locate_fe, fun s0 s1 s2 h => locate_pb h ho,
      fun lo rp => locate_mnet⟩⟩

/-! ### Bank switches -/

/-- The bank state after the switch that an access at `a` makes, before the snoop: an address outside the window makes
none (R86). -/
def switchedAt (s : State) (a : Word) : Variant :=
  match busTarget a with
  | .cart o => s.cart.variant.switch o
  | _ => s.cart.variant

theorem switchedAt_of_cart {a : Word} {o : Nat} (h : busTarget a = .cart o) (s : State) :
    switchedAt s a = s.cart.variant.switch o := by
  simp only [switchedAt, h]

theorem switchedAt_of_not_hot {a : Word} {s : State} (h : s.hotAddress a = false) : switchedAt s a = s.cart.variant := by
  unfold State.hotAddress at h
  unfold switchedAt
  cases hb : busTarget a with
  | cart o =>
    rw [hb] at h
    exact switch_of_not_hot h
  | _ => rfl

/-- An access anywhere leaves the bank state after its switch and its snoop (R85, R86). -/
theorem memRead_variant (a : Word) (s : State) :
    (memRead a s).2.cart.variant = (switchedAt s a).snoop (busAddress a) (memRead a s).1 := by
  cases hb : busTarget a with
  | cart o =>
    rw [(memRead_window hb s).2, (memRead_window hb s).1, switchedAt_of_cart hb]
    rcases cart_read_cases s.cart o (s.fresh 0, s.fresh 1) with h | ⟨k, -, h⟩ <;> rw [h] <;> rfl
  | _ => simp only [memRead, readTarget, switchedAt, hb]; rfl

theorem memWrite_variant (a : Word) (v : Byte) (s : State) :
    (memWrite a v s).cart.variant = (switchedAt s a).snoop (busAddress a) v := by
  cases hb : busTarget a with
  | cart o =>
    rw [memWrite_window hb, switchedAt_of_cart hb]
    rcases cart_write_cases s.cart o v with h | ⟨k, -, h⟩ <;> rw [h] <;> rfl
  | _ => simp only [memWrite, writeTarget, switchedAt, hb]; rfl

/-- Scheme `fe` apart, the snoop leaves the bank state (R85). -/
theorem snoop_of_not_fe {v : Variant} (h : ∀ bank1 armed, v ≠ .fe bank1 armed) (n : Nat) (d : Byte) : v.snoop n d = v := by
  cases v with
  | fe bank1 armed => exact absurd rfl (h bank1 armed)
  | _ => rfl

theorem switch_ne_fe {v : Variant} (h : ∀ bank1 armed, v ≠ .fe bank1 armed) (o : Nat) (bank1 armed : Bool) :
    v.switch o ≠ .fe bank1 armed := by
  cases v with
  | fe b m => exact absurd rfl (h b m)
  | _ => exact nofun

theorem switch_hot {p : HotScheme} {o : Nat} (bank : Nat) (hlo : p.hLo ≤ o) (hhi : o ≤ p.hHi) :
    (Variant.hot p bank).switch o = .hot p (o - p.hLo) := by
  simp only [Variant.switch, hlo, hhi, and_self, if_true]

/-- The hot addresses of the three segment registers of `pb` (R96). -/
theorem switch_pb (s0 s1 s2 : Nat) {k : Nat} (hk : k < 8) :
    (Variant.pb s0 s1 s2).switch (0xFE0 + k) = .pb k s1 s2 ∧
    (Variant.pb s0 s1 s2).switch (0xFE8 + k) = .pb s0 k s2 ∧
    (Variant.pb s0 s1 s2).switch (0xFF0 + k) = .pb s0 s1 k := by
  simp only [Variant.switch]
  refine ⟨?_, ?_, ?_⟩
  · rw [if_pos (by omega), if_neg (by omega), if_neg (by omega), Nat.add_sub_cancel_left]
  · rw [if_neg (by omega), if_pos (by omega), if_neg (by omega), Nat.add_sub_cancel_left]
  · rw [if_neg (by omega), if_neg (by omega), if_pos (by omega), Nat.add_sub_cancel_left]

/-- The hot addresses of the segment register and the page register of `mnet` (R98). -/
theorem switch_mnet (lo rp : Nat) {k : Nat} (hk : k < 8) :
    (Variant.mnet lo rp).switch (0xFE0 + k) = .mnet k rp ∧
    (k < 4 → (Variant.mnet lo rp).switch (0xFE8 + k) = .mnet lo k) := by
  simp only [Variant.switch]
  refine ⟨?_, fun hk4 => ?_⟩
  · rw [if_pos (by omega), if_neg (by omega), Nat.add_sub_cancel_left]
  · rw [if_neg (by omega), if_pos (by omega), Nat.add_sub_cancel_left]

/-- Which offsets are hot does not depend on the bank state (R86). -/
theorem hotOffset_scheme (v : Variant) (o : Nat) : v.scheme.hotOffset o = v.hotOffset o := by cases v <;> rfl

theorem hotOffset_congr {v w : Variant} (h : v.scheme = w.scheme) (o : Nat) : v.hotOffset o = w.hotOffset o := by
  rw [← hotOffset_scheme v, h, hotOffset_scheme]

theorem switched_variant {c : Cart} {w : Variant} (h : c.variant = w) (o : Nat) : (c.switched o).variant = w.switch o := by
  rw [Cart.switched, h]

theorem switched_of_not_hot {c : Cart} {o : Nat} (h : c.variant.hotOffset o = false) : c.switched o = c := by
  rw [Cart.switched, switch_of_not_hot h]

/-! ### Reads after an access

`t` is the machine after a read or after a write at `a`, and `a'` a later read's address. -/

section

variable {a a' : Word} {o o' i : Nat} {v : Byte} {s t : State} {w : Variant}

theorem access_keeps (ht : t ∈ [(memRead a s).2, memWrite a v s]) : AccessKeeps s t := by
  simp only [List.mem_cons, List.not_mem_nil, or_false] at ht
  rcases ht with rfl | rfl
  · exact memRead_keeps a s
  · exact memWrite_keeps a v s

/-- A read and a write at a window offset make the same switch (R86). -/
theorem access_variant (ha : busTarget a = .cart o) (hw : s.cart.variant = w) (hfe : ∀ bank1 armed, w ≠ .fe bank1 armed)
    (ht : t ∈ [(memRead a s).2, memWrite a v s]) : t.cart.variant = w.switch o := by
  subst hw
  simp only [List.mem_cons, List.not_mem_nil, or_false] at ht
  rcases ht with rfl | rfl
  · rw [memRead_variant, switchedAt_of_cart ha, snoop_of_not_fe (switch_ne_fe hfe o)]
  · rw [memWrite_variant, switchedAt_of_cart ha, snoop_of_not_fe (switch_ne_fe hfe o)]

theorem accesses_variant (v : Byte) (ha : busTarget a = .cart o) (hw : s.cart.variant = w)
    (hfe : ∀ bank1 armed, w ≠ .fe bank1 armed) :
    (memRead a s).2.cart.variant = w.switch o ∧ (memWrite a v s).cart.variant = w.switch o :=
  ⟨access_variant ha hw hfe (v := v) (by simp), access_variant ha hw hfe (v := v) (by simp)⟩

theorem later_switched (hk : AccessKeeps s t) (ha : busTarget a' = .cart o') (hh : s.hotAddress a' = false) :
    t.cart.switched o' = t.cart := by
  refine switched_of_not_hot ?_
  rw [hotOffset_congr hk.scheme]
  simpa only [State.hotAddress, ha] using hh

theorem later_rom (hk : AccessKeeps s t) (ha : busTarget a' = .cart o') (hh : s.hotAddress a' = false)
    (hl : t.cart.locate o' = .rom i) : (memRead a' t).1 = Memory.read s.cart.rom i := by
  rw [memRead_rom ha (by rw [later_switched hk ha hh, hl]), hk.rom]

theorem later_readPort (hk : AccessKeeps s t) (ha : busTarget a' = .cart o') (hh : s.hotAddress a' = false)
    (hl : t.cart.locate o' = .readPort i) : (memRead a' t).1 = Memory.read t.cart.ram i :=
  memRead_readPort ha (by rw [later_switched hk ha hh, hl])

end

/-- What `mnet` shows at the offsets that are no write port, from what its ROM cells and its read ports show (R98). -/
theorem mnet_shows {c : Cart} {lo rp x : Nat} {rom ram : Memory} {y : Byte} (h : c.variant = .mnet lo rp)
    (hrom : ∀ i, c.locate x = .rom i → y = Memory.read rom i)
    (hport : ∀ i, c.locate x = .readPort i → y = Memory.read ram i) :
    (x < 0x800 → lo < 7 → y = Memory.read rom (lo * 2048 + x)) ∧
    (0x400 ≤ x → x < 0x800 → lo = 7 → y = Memory.read ram (x - 0x400)) ∧
    (0x900 ≤ x → x < 0xA00 → y = Memory.read ram (1024 + rp * 256 + (x - 0x900))) ∧
    (0xA00 ≤ x → y = Memory.read rom (7 * 2048 + (x - 0x800))) := by
  obtain ⟨segment, -, ram1k, -, ram256, top⟩ := locate_mnet (o := x) h
  exact ⟨fun h1 h2 => hrom _ (segment h1 h2), fun h1 h2 h3 => hport _ (ram1k h1 h2 h3), fun h1 h2 => hport _ (ram256 h1 h2),
    fun h1 => hrom _ (top h1)⟩

/-- Settles O40: an access switches first, then reads, and what the switched bank state shows is what stays to be read. -/
theorem hotAddressesSwitchBanks : Obligations.HotAddressesSwitchBanks := by
  intro a o v s ha
  refine ⟨fun p bank hv hlo hhi => ?_, fun s0 s1 s2 hv => ?_, fun lo rp hv => ?_, fun a' hh hfe => ?_⟩
  · have hs := switch_hot bank hlo hhi
    have shows {c : Cart} {x : Nat} (hc : c.variant = (Variant.hot p bank).switch o) (hx : 2 * p.ramSize ≤ x) :
        c.locate x = .rom ((o - p.hLo) * 4096 + x) := by
      obtain ⟨-, -, rom⟩ := locate_hot (o := x) (hc.trans hs)
      exact rom hx
    obtain ⟨hr, hw⟩ := accesses_variant v ha hv nofun
    exact ⟨hr.trans hs, hw.trans hs, fun hx => memRead_rom ha (shows (switched_variant hv o) hx), fun t ht a' o' ha' hx hh =>
      later_rom (access_keeps ht) ha' hh (shows (access_variant ha hv nofun ht) hx)⟩
  · obtain ⟨hr, hw⟩ := accesses_variant v ha hv nofun
    refine ⟨fun k hk => ?_, fun t ht => ?_⟩
    · obtain ⟨h0, h1, h2⟩ := switch_pb s0 s1 s2 hk
      refine ⟨?_, ?_, ?_⟩ <;> rintro rfl
      · exact ⟨hr.trans h0, hw.trans h0⟩
      · exact ⟨hr.trans h1, hw.trans h1⟩
      · exact ⟨hr.trans h2, hw.trans h2⟩
    · have htv := access_variant ha hv nofun ht
      exact ⟨_, _, _, htv, memRead_rom ha (locate_pb (switched_variant hv o) (cart_offset_lt ha)), fun a' o' ha' hh =>
        later_rom (access_keeps ht) ha' hh (locate_pb htv (cart_offset_lt ha'))⟩
  · obtain ⟨hr, hw⟩ := accesses_variant v ha hv nofun
    refine ⟨fun k hk => ?_, fun t ht => ?_⟩
    · obtain ⟨h0, h1⟩ := switch_mnet lo rp hk
      refine ⟨?_, fun hk4 => ?_⟩ <;> rintro rfl
      · exact ⟨hr.trans h0, hw.trans h0⟩
      · exact ⟨hr.trans (h1 hk4), hw.trans (h1 hk4)⟩
    · have htv := access_variant ha hv nofun ht
      exact ⟨_, _, htv, mnet_shows (switched_variant hv o) (fun i => memRead_rom ha) (fun i => memRead_readPort ha),
        fun a' o' ha' hh => mnet_shows htv (fun i => later_rom (access_keeps ht) ha' hh)
          (fun i => later_readPort (access_keeps ht) ha' hh)⟩
  · rw [memRead_variant, memWrite_variant, switchedAt_of_not_hot hh, snoop_of_not_fe hfe, snoop_of_not_fe hfe]
    exact ⟨rfl, rfl⟩

/-! ### Scheme `fe` -/

theorem hotAddress_of_fe {s : State} {bank1 armed : Bool} (h : s.cart.variant = .fe bank1 armed) (a : Word) :
    s.hotAddress a = false := by
  unfold State.hotAddress
  rw [h]
  split <;> rfl

theorem switchedAt_of_fe {s : State} {bank1 armed : Bool} (h : s.cart.variant = .fe bank1 armed) (a : Word) :
    switchedAt s a = .fe bank1 armed :=
  (switchedAt_of_not_hot (hotAddress_of_fe h a)).trans h

/-- The trigger address in 13 bits (R95). -/
theorem busAddress_beq_trigger (a : Word) : (busAddress a == 0x01FE) = decide (a &&& 0x1FFF = 0x01FE) := by
  rw [busAddress, ← toNat_mirror, Bool.beq_eq_decide_eq]
  exact decide_eq_decide.mpr (BitVec.toNat_inj (y := 0x01FE))

/-- The window of `fe` shows ROM only. -/
theorem locate_switched_fe {c : Cart} {bank1 armed : Bool} (h : c.variant = .fe bank1 armed) (o : Nat) :
    (c.switched o).locate o = .rom ((if bank1 then 1 else 0) * 4096 + o) :=
  locate_fe (switched_variant h o)

theorem memWrite_cartRam_of_fe {s : State} {bank1 armed : Bool} (h : s.cart.variant = .fe bank1 armed) (a : Word)
    (v : Byte) : (memWrite a v s).cart.ram = s.cart.ram := by
  cases hb : busTarget a with
  | cart o =>
    obtain ⟨-, -, -, hram, -⟩ := accesses_rom v hb (locate_switched_fe h o)
    exact hram
  | _ => simp only [memWrite, writeTarget, hb]; rfl

/-- Settles O41: under `fe` no access has a switch, so what it leaves is the snoop's. -/
theorem feSchemeSnoops : Obligations.FeSchemeSnoops := by
  refine ⟨fun a v s bank1 armed h => ⟨?_, ?_, (memWrite_keeps a v s).rom, memWrite_cartRam_of_fe h a v, fun o ha => ?_⟩,
    fun e p n => rfl⟩
  · rw [memRead_variant, switchedAt_of_fe h, Variant.snoop, busAddress_beq_trigger]
  · rw [memWrite_variant, switchedAt_of_fe h, Variant.snoop, busAddress_beq_trigger]
  · exact memRead_rom ha (locate_switched_fe h o)

/-! ### The image sizes -/

/-- The image sizes a scheme accepts (R89 to R98; for `e` notes/assumptions/25.md). -/
def acceptedSizes (cartE : HotScheme) : SchemeTag → List Nat
  | .singleBank => [2048, 4096]
  | .default => [2048, 4096, 8192, 12288, 16384, 32768]
  | .f4 => [32768]
  | .super => [8192, 16384, 32768]
  | .cbs => [12288]
  | .fe => [8192]
  | .pb => [8192]
  | .e => [cartE.nb * 4096]
  | .mnet => [16384]

theorem hotBySize_isSome_iff (n r : Nat) : (hotBySize n r).isSome = true ↔ n ∈ [8192, 16384, 32768] := by
  unfold hotBySize
  split_ifs <;> simp [*]

theorem resolveVariant_isSome_iff (cartE : HotScheme) (p : PowerOn) (tag : SchemeTag) (n : Nat) :
    (resolveVariant cartE p tag n).isSome = true ↔ n ∈ acceptedSizes cartE tag := by
  cases tag <;> simp only [resolveVariant, acceptedSizes, Option.isSome_map]
  case super => exact hotBySize_isSome_iff n 128
  case default =>
    split_ifs with h1 h2
    · rcases h1 with rfl | rfl <;> simp
    · simp [h2]
    · rw [Option.isSome_map, hotBySize_isSome_iff]
      simp only [List.mem_cons]
      tauto
  all_goals simp only [Option.isSome_ite, List.mem_cons, List.not_mem_nil, or_false]

theorem loadCartridge_of_accepted {cfg : Config} {p : PowerOn} {tag : SchemeTag} {image : List Byte}
    (h : image.length ∈ acceptedSizes cfg.cartE tag) : ∃ t, loadCartridge cfg p tag image = .next t := by
  obtain ⟨v, hv⟩ := Option.isSome_iff_exists.mp ((resolveVariant_isSome_iff cfg.cartE p tag _).mpr h)
  simp only [loadCartridge, makeCart, hv, Option.map_some]
  exact ⟨_, rfl⟩

theorem loadCartridge_of_not_accepted {cfg : Config} {p : PowerOn} {tag : SchemeTag} {image : List Byte}
    (h : image.length ∉ acceptedSizes cfg.cartE tag) :
    loadCartridge cfg p tag image = .fault (.invalidCartridgeImage tag image.length) := by
  rw [← resolveVariant_isSome_iff cfg.cartE p, Option.not_isSome_iff_eq_none] at h
  simp only [loadCartridge, makeCart, h, Option.map_none]

/-- Settles O58: construction fails where the scheme resolves to no variant, and only there. -/
theorem invalidCartridgeImages : Obligations.InvalidCartridgeImages := by
  intro cfg p tag image
  exact ⟨loadCartridge_of_accepted, loadCartridge_of_not_accepted⟩

end Sys2Proof.Proofs
end

section
/-! SUPPORT. The encoding: decoder and encoder said once each, and what the bytes of an instruction tell of it
(30_encoding.md R120, R121, R140, R141, R151). -/

namespace Sys2Proof.Proofs

open Sys2Proof.Machine Sys2Proof.Laws

/-! ### Decoder and encoder -/

/-- Settles O1: a form of one or two bytes decodes by computation, one of three bytes by the law of `decode_threeBytes`. -/
theorem decodeInvertsEncode : Obligations.DecodeInvertsEncode := by
  intro i rest
  cases i
  case jsr a | jmpAbs a | jmpInd a | bitAbs a | cpxAbs a | cpyAbs a | ldaAbs a | ldaAbsx a | ldaAbsy a | ldxAbs a
    | ldxAbsy a | ldyAbs a | ldyAbsx a | staAbs a | staAbsx a | staAbsy a | stxAbs a | styAbs a | adcAbs a | adcAbsx a
    | adcAbsy a | sbcAbs a | sbcAbsx a | sbcAbsy a | andAbs a | andAbsx a | andAbsy a | oraAbs a | oraAbsx a | oraAbsy a
    | eorAbs a | eorAbsx a | eorAbsy a | cmpAbs a | cmpAbsx a | cmpAbsy a | aslAbs a | aslAbsx a | lsrAbs a | lsrAbsx a
    | rolAbs a | rolAbsx a | rorAbs a | rorAbsx a | incAbs a | incAbsx a | decAbs a | decAbsx a =>
    exact decode_threeBytes _ _ rfl a rest
  all_goals rfl

/-- The bytes that an instruction of a row is encoded to, from its opcode byte and operand bytes (R120). -/
def rowBytes : OpcodeRow → Byte → Byte → Byte → List Byte
  | .f1 _, op, _, _ => [op]
  | .f2 _, op, b1, _ => [op, b1]
  | .f3 _, op, b1, b2 => threeBytes op (wordOf b2 b1)

set_option maxRecDepth 10000 in
/-- The encoder agrees with the opcode map, all 256 rows evaluated at once (R140, R151). -/
theorem opcodeTable_encodes (b1 b2 : Byte) :
    opcodeTable.map (fun r => encode (r.instr b1 b2)) =
      opcodeTable.zipIdx.map fun p => rowBytes p.1 (BitVec.ofNat 8 p.2) b1 b2 := rfl

theorem rowBytes_eq_take (r : OpcodeRow) (op b1 b2 : Byte) :
    rowBytes r op b1 b2 = [op, b1, b2].take (r.operandBytes + 1) := by
  cases r <;> simp [rowBytes, OpcodeRow.operandBytes, threeBytes]

/-- The bytes of an instruction are its opcode byte and as many operand bytes as its row has (R120, R140). -/
theorem encode_instrOf (op b1 b2 : Byte) :
    encode (instrOf op b1 b2) = [op, b1, b2].take ((rowOf op).operandBytes + 1) := by
  rw [← rowBytes_eq_take]
  have hop : op.toNat < opcodeTable.length := opcodeTable_length ▸ op.isLt
  have h := congrArg (·[op.toNat]?) (opcodeTable_encodes b1 b2)
  simpa [instrOf, rowOf, List.getElem?_eq_getElem hop] using h

/-- Decoding takes the bytes of the opcode's row and answers the row's instruction (R120, R121). -/
theorem decode_take (op b1 b2 : Byte) (rest : List Byte) :
    decode ([op, b1, b2].take ((rowOf op).operandBytes + 1) ++ rest) = .ok (instrOf op b1 b2, rest) := by
  cases h : rowOf op <;> simp [decode, instrOf, OpcodeRow.instr, OpcodeRow.operandBytes, h]

/-- What decodes begins with an opcode byte and the operand bytes of its row (R121). -/
theorem decode_eq_ok {bs rest : List Byte} {i : Instr} (h : decode bs = .ok (i, rest)) :
    ∃ op b1 b2, i = instrOf op b1 b2 ∧ bs = [op, b1, b2].take ((rowOf op).operandBytes + 1) ++ rest := by
  unfold decode at h
  split at h
  · cases h
  · rename_i op bs
    split at h <;> cases h
    · rename_i hr
      exact ⟨op, 0, 0, by simp [instrOf, OpcodeRow.instr, hr], by simp [OpcodeRow.operandBytes, hr]⟩
    · rename_i f b1 hr
      exact ⟨op, b1, 0, by simp [instrOf, OpcodeRow.instr, hr], by simp [OpcodeRow.operandBytes, hr]⟩
    · rename_i f b1 b2 hr
      exact ⟨op, b1, b2, by simp [instrOf, OpcodeRow.instr, hr], by simp [OpcodeRow.operandBytes, hr]⟩

/-- Settles O2: what decodes is an instruction of a row, whose bytes the encoder gives; three bytes are
enough for any row. -/
theorem encodeInvertsDecode : Obligations.EncodeInvertsDecode := by
  refine ⟨fun bs rest i h => ?_, fun op b1 b2 rest => ?_⟩
  · obtain ⟨op, b1, b2, rfl, rfl⟩ := decode_eq_ok h
    rw [encode_instrOf]
  · have h := decode_take op b1 b2 ([op, b1, b2].drop ((rowOf op).operandBytes + 1) ++ rest)
    rw [← List.append_assoc, List.take_append_drop] at h
    exact ⟨_, _, h⟩

/-- Every instruction is the one of its own bytes. -/
theorem exists_instrOf (i : Instr) : ∃ op b1 b2, i = instrOf op b1 b2 := by
  obtain ⟨op, b1, b2, h, -⟩ := decode_eq_ok (decodeInvertsEncode i [])
  exact ⟨op, b1, b2, h⟩

/-! ### What the opcode byte tells -/

/-- The undocumented instructions are those whose opcode byte is undocumented, and their class holds that byte (R150). -/
theorem shape_of_not_wellFormed {i : Instr} (h : ¬ WellFormed i) : i.shape = .undocumented ((encode i).headD 0) := by
  rw [WellFormed, Bool.not_eq_true] at h
  cases i <;> cases h <;> rfl

/-- Settles O3: the opcode byte is the head of the instruction's bytes, so each instruction is looked up by its own. -/
theorem undocumentedOpcodesAreTheListed : Obligations.UndocumentedOpcodesAreTheListed := by
  intro op b1 b2
  have hop : op = (encode (instrOf op b1 b2)).headD 0 := by rw [encode_instrOf]; rfl
  generalize instrOf op b1 b2 = i at hop ⊢
  rw [hop, ← decide_eq_decide]
  cases i <;> rfl

/-- Settles O4: sixteen byte sequences, decoded one by one. -/
theorem specWordsDecode : Obligations.SpecWordsDecode := by
  unfold Obligations.SpecWordsDecode
  decide

end Sys2Proof.Proofs
end

section
/-! SUPPORT. The fetch as a number of read cycles at PC and the bytes they give (30_encoding.md R121; 70_reset_and_hazards.md
R520, R541). -/

namespace Sys2Proof.Proofs

open Sys2Proof.Machine Sys2Proof.Laws

/-! ### The bytes of one instruction -/

theorem operandBytes_le (r : OpcodeRow) : r.operandBytes ≤ 2 := by cases r <;> simp [OpcodeRow.operandBytes]

/-- As many bytes as their opcode byte's row has decode with nothing left over (R120, R121). -/
theorem decode_of_length {bs : List Byte} (h : bs.length = (rowOf (bs.headD 0)).operandBytes + 1) :
    decode bs = .ok (instrOfBytes bs, []) := by
  have e := decode_take (bs.headD 0) (bs.getD 1 0) (bs.getD 2 0) []
  have hl := operandBytes_le (rowOf (bs.headD 0))
  have hbs : [bs.headD 0, bs.getD 1 0, bs.getD 2 0].take bs.length = bs := by
    match bs with
    | [] | [_] | [_, _] | [_, _, _] => rfl
    | _ :: _ :: _ :: _ :: _ => simp only [List.length_cons] at h; omega
  rw [← h, hbs, List.append_nil] at e
  rw [e]
  cases bs <;> rfl

theorem encode_length (i : Instr) : (encode i).length = (rowOf ((encode i).headD 0)).operandBytes + 1 := by
  cases i <;> rfl

/-- The fetch has one cycle a byte, but for JSR, which reads its last byte in its cycle 6 (R520, R541). -/
theorem fetchCycles_eq (i : Instr) :
    i.shape.fetchCycles = if (encode i).headD 0 = jsrOpcode then 2 else (encode i).length := by cases i <;> rfl

/-! ### Fetch cycles -/

/-- The bytes that `n` fetch cycles read (R121). -/
def fetchedBytes : Nat → State → List Byte
  | 0, _ => []
  | n + 1, s => (fetchByte s).1 :: fetchedBytes n (fetchByte s).2

@[simp] theorem fetchedBytes_length (n : Nat) : ∀ s, (fetchedBytes n s).length = n := by
  induction n with
  | zero => exact fun _ => rfl
  | succ n ih => exact fun s => by rw [fetchedBytes, List.length_cons, ih]

/-- The registers with PC moved on by `n` (R23). -/
def pcPlus (n : Nat) (c : Cpu) : Cpu := { c with pc := c.pc + BitVec.ofNat 16 n }

theorem pcPlus_zero (c : Cpu) : pcPlus 0 c = c := by simp [pcPlus]

theorem pcPlus_incPc (n : Nat) (c : Cpu) : pcPlus n c.incPc = pcPlus (n + 1) c := by
  simp only [pcPlus, Cpu.incPc, BitVec.add_assoc, BitVec.ofNat_add, BitVec.add_comm 1]
  rfl

theorem fetchByte_cpu (s : State) : (fetchByte s).2.cpu = s.cpu.incPc := by simp [fetchByte]

theorem fetchCyclesFrom_cpu (n : Nat) : ∀ s, (fetchCyclesFrom n s).cpu = pcPlus n s.cpu := by
  induction n with
  | zero => exact fun s => (pcPlus_zero s.cpu).symm
  | succ n ih => exact fun s => by rw [fetchCyclesFrom, ih, fetchByte_cpu, pcPlus_incPc]

/-- The fetch reads the bytes of the opcode's row, one a cycle; JSR's last byte is the one its cycle 6 will read (R541). -/
theorem fetchBytes_eq (s : State) :
    let s0 := s.withPipe Latches.idle
    let op := (fetchByte s0).1
    fetchBytes s =
      if op = jsrOpcode then (fetchedBytes 2 s0 ++ [jsrHighByte (fetchCyclesFrom 2 s0)], fetchCyclesFrom 2 s0)
      else (fetchedBytes ((rowOf op).operandBytes + 1) s0, fetchCyclesFrom ((rowOf op).operandBytes + 1) s0) := by
  have hj : rowOf jsrOpcode = .f3 .jsr := rfl
  intro s0 op
  unfold fetchBytes
  cases hr : rowOf op with
  | f1 i | f2 f =>
    rw [if_neg fun h => by rw [h, hj] at hr; cases hr]
    simp only [op, s0] at hr
    simp only [hr]
    rfl
  | f3 f =>
    simp only [op, s0] at hr
    simp only [hr]
    rfl

/-- The first byte fetched is the one read at PC. -/
theorem fetchBytes_head? (s : State) : (fetchBytes s).1.head? = some (fetchByte (s.withPipe Latches.idle)).1 := by
  rw [fetchBytes_eq]
  split <;> rfl

theorem fetchBytes_headD (s : State) : (fetchBytes s).1.headD 0 = (fetchByte (s.withPipe Latches.idle)).1 := by
  rw [List.headD_eq_head?_getD, fetchBytes_head?]; rfl

/-- The fetched bytes are as many as the row of the first has (R120, R121). -/
theorem fetchBytes_length (s : State) : (fetchBytes s).1.length = (rowOf ((fetchBytes s).1.headD 0)).operandBytes + 1 := by
  rw [fetchBytes_headD, fetchBytes_eq]
  split
  · rename_i h
    rw [h]; rfl
  · exact fetchedBytes_length _ _

/-- What is fetched decodes with nothing left over, so it is the encoding of the fetched instruction (R121). -/
theorem decode_fetchBytes (s : State) : decode (fetchBytes s).1 = .ok ((fetch s).1, []) :=
  decode_of_length (fetchBytes_length s)

theorem encode_fetch (s : State) : encode (fetch s).1 = (fetchBytes s).1 := by
  simpa using (encodeInvertsDecode.1 _ _ _ (decode_fetchBytes s)).symm

/-- Where the meaning of the fetched instruction starts (R520). -/
theorem fetch_snd (s : State) : (fetch s).2 = fetchCyclesFrom (fetch s).1.shape.fetchCycles (s.withPipe Latches.idle) := by
  rw [fetchCycles_eq, encode_fetch, fetchBytes_length, fetchBytes_headD, fetch, fetchBytes_eq]
  split <;> rfl

/-- Settles O5: the fetched bytes decode to the instruction whose class counts the fetch cycles, which move PC alone. -/
theorem stepRunsTheFetchedInstruction : Obligations.StepRunsTheFetchedInstruction := by
  intro s hs hp
  have hc : (cycleRead s.cpu.pc s).1 = (fetchByte (s.withPipe Latches.idle)).1 := by
    rw [fetchByte, withPipe_cpu, cycleRead_withPipe]
  refine ⟨decode_fetchBytes s, ?_, fetch_snd s, ?_, ?_⟩
  · rw [hc, fetchBytes_head?]
  · rw [fetch_snd s, fetchCyclesFrom_cpu]; rfl
  · rw [step_of_boundary hs hp, exec_eq_run]

end Sys2Proof.Proofs
end

section
/-! SUPPORT. The fetch of bytes that stand as plain code (20_memory.md R71, R83), JSR's last byte after its pushes included
(70_reset_and_hazards.md R541). -/

namespace Sys2Proof.Proofs

open Sys2Proof.Machine Sys2Proof.Laws

/-! ### Cycles that leave the cartridge -/

theorem stackPage_not_window (b : Byte) (o : Nat) : busTarget (stackPage b) ≠ .cart o := by
  have h12 : (stackPage b).getLsbD 12 = false := by rw [stackPage, wordOf, BitVec.getLsbD_append]; rfl
  rw [busTarget, if_neg (by rw [h12]; decide)]
  split_ifs <;> exact fun h => by cases h

/-- Outside the window, and where `fe` does not snoop, an access leaves the cartridge (R71, R95). `split` numbers the
targets from 1: case `h_4` is the window. -/
theorem cycleRead_cart {a : Word} {s : State} (h : s.cart.variant.snoops a = false) (ha : ∀ o, busTarget a ≠ .cart o) :
    (cycleRead a s).2.cart = s.cart := by
  have k := (ready_timeOnly s).cart
  have ht : (readTarget a s.ready).2.cart = s.cart := by
    rw [← k, readTarget]
    split
    case h_4 o ho => exact absurd ho (ha o)
    all_goals rfl
  rw [cycleRead, endCall_cart, memRead, snoopBus_of_not_snoops _ (by rw [ht, h]), ht]

theorem cycleWrite_cart {a : Word} {s : State} (v : Byte) (h : s.cart.variant.snoops a = false)
    (ha : ∀ o, busTarget a ≠ .cart o) : (cycleWrite a v s).cart = s.cart := by
  have k := (ready_timeOnly s).cart
  have ht : (writeTarget a v s.ready).cart = s.cart := by
    rw [← k, writeTarget]
    split
    case h_4 o ho => exact absurd ho (ha o)
    all_goals rfl
  rw [cycleWrite, endCall_cart, memWrite, snoopBus_of_not_snoops _ (by rw [ht, h]), ht]

/-- Cycles outside the window at which `fe` does not snoop leave the cartridge (R71, R95). -/
theorem cart_of_cycles {r w : List Word} {s t : State} (h : Cycles r w s t)
    (hq : ∀ a ∈ r ++ w, s.cart.variant.snoops a = false ∧ ∀ o, busTarget a ≠ .cart o) : t.cart = s.cart := by
  induction h with
  | refl => rfl
  | read a _ ih =>
    have e := ih fun b hb => hq b (by simp only [List.mem_append] at hb ⊢; tauto)
    obtain ⟨hs, ha⟩ := hq a (by simp)
    rw [cycleRead_cart (by rw [e, hs]) ha, e]
  | write a v _ ih =>
    have e := ih fun b hb => hq b (by simp only [List.mem_append] at hb ⊢; tauto)
    obtain ⟨hs, ha⟩ := hq a (by simp)
    rw [cycleWrite_cart v (by rw [e, hs]) ha, e]
  | cpu f _ ih => exact ih hq
  | draws k _ ih => exact ih hq

/-! ### Plain code -/

/-- A byte of code depends on the cartridge and its own RAM cell alone. -/
theorem codeByte_congr {s t : State} {a : Word} (hc : t.cart = s.cart)
    (hr : ∀ k, busTarget a = .ram k → Memory.read t.ram k = Memory.read s.ram k) : t.codeByte a = s.codeByte a := by
  have hp : peek a t = peek a s := by
    unfold peek
    split
    · rfl
    · rename_i k hk
      rw [hr k hk]
    · rfl
    · rw [hc]
  have hh : t.hotAddress a = s.hotAddress a := by rw [State.hotAddress, hc]; rfl
  rw [State.codeByte, State.codeByte, hc, hh, hp]

/-- Fetching a byte of code reads it, and but for PC only time passes (R23, R71). -/
theorem fetchByte_of_codeByte {s : State} {b : Byte} (h : s.codeByte s.cpu.pc = some b) :
    (fetchByte s).1 = b ∧ TimeOnly (s.mapCpu Cpu.incPc) (fetchByte s).2 := by
  have k := ready_timeOnly s
  have hm : memRead s.cpu.pc s.ready = (b, s.ready) :=
    memRead_of_codeByte (by rw [codeByte_congr k.cart (fun _ _ => by rw [k.ram]), h])
  have e : fetchByte s = (b, endCall (s.mapCpu Cpu.incPc).ready) := by
    simp only [fetchByte, cycleRead, hm, State.mapCpu, ready_withCpu, endCall_withCpu, endCall_cpu, k.cpu]
  rw [e]
  exact ⟨rfl, (ready_timeOnly _).trans (endCall_timeOnly _)⟩

theorem codeAt_congr {s t : State} (hc : t.cart = s.cart) (hr : t.ram = s.ram) (bs : List Byte) :
    ∀ a, s.codeAt a bs → t.codeAt a bs := by
  induction bs with
  | nil => exact fun _ _ => trivial
  | cons b bs ih => exact fun a ⟨hb, hbs⟩ => ⟨by rw [codeByte_congr hc (fun _ _ => by rw [hr]), hb], ih _ hbs⟩

theorem codeAt_withPipe {s : State} {p : Latches} {a : Word} {bs : List Byte} (h : s.codeAt a bs) :
    (s.withPipe p).codeAt a bs :=
  codeAt_congr (s := s) (t := s.withPipe p) rfl rfl bs a h

theorem timeOnly_mapCpu {s t : State} (h : TimeOnly s t) (f : Cpu → Cpu) : TimeOnly (s.mapCpu f) (t.mapCpu f) :=
  ⟨congrArg f h.cpu, h.pipe, h.cpuFault, h.ram, h.cart, h.cfg, h.draws, h.tiaRegs, h.ora, h.orb, h.ddra, h.ddrb, h.shift⟩

/-- Fetch cycles over code read its bytes, and but for PC only time passes (R23, R71, R121). -/
theorem fetchCycles_of_codeAt (n : Nat) : ∀ (bs : List Byte) (s : State), n ≤ bs.length → s.codeAt s.cpu.pc bs →
    fetchedBytes n s = bs.take n ∧ TimeOnly (s.mapCpu (pcPlus n)) (fetchCyclesFrom n s) := by
  induction n with
  | zero => exact fun bs s _ _ => ⟨rfl, by rw [State.mapCpu, pcPlus_zero]; exact TimeOnly.refl s⟩
  | succ n ih =>
    intro bs s hn h
    obtain ⟨b, bs, rfl⟩ := List.exists_cons_of_length_pos (Nat.zero_lt_of_lt hn)
    obtain ⟨hb, hbs⟩ := h
    obtain ⟨h1, ht⟩ := fetchByte_of_codeByte hb
    have hpc : (fetchByte s).2.cpu.pc = s.cpu.pc + 1 := by rw [ht.cpu]; rfl
    obtain ⟨h2, ht2⟩ := ih bs (fetchByte s).2 (Nat.le_of_succ_le_succ hn)
      (by rw [hpc]; exact codeAt_congr (s := s) ht.cart ht.ram bs _ hbs)
    refine ⟨by rw [fetchedBytes, h1, h2, List.take_succ_cons], TimeOnly.trans ?_ ht2⟩
    have e : (s.mapCpu Cpu.incPc).mapCpu (pcPlus n) = s.mapCpu (pcPlus (n + 1)) :=
      congrArg s.withCpu (pcPlus_incPc n s.cpu)
    exact e ▸ timeOnly_mapCpu ht (pcPlus n)

/-! ### JSR's last byte -/

theorem jsrPrelude_cycles (s : State) :
    Cycles [stackPage s.cpu.s] [stackPage s.cpu.s, stackPage (s.cpu.s - 1)] s (jsrPrelude s) := by
  simpa [jsrPrelude] using
    (((Cycles.refl s).dummy (stackPage s.cpu.s)).push (highByte s.cpu.pc)).push (lowByte s.cpu.pc)

/-- Where neither push stores over a byte of code and `fe` does not snoop, JSR's cycles 3 to 5 leave it (R541). -/
theorem jsrPrelude_codeByte {s : State} {a : Word} (h : s.jsrOperandStays a) :
    (jsrPrelude s).codeByte a = s.codeByte a := by
  obtain ⟨hr, h1, h2⟩ := h
  have hc := jsrPrelude_cycles s
  refine codeByte_congr (cart_of_cycles hc ?_) fun k hk => (frame_of_cycles hc).ram k ?_
  · simpa [stackPage_not_window] using ⟨h1, h2⟩
  · simpa using hr k hk

/-- JSR's last byte is the one that stands as code after the two bytes it fetches (R541). -/
theorem jsrHighByte_of_codeByte {s : State} {b : Byte} (hb : s.codeByte s.cpu.pc = some b)
    (h : s.jsrOperandStays s.cpu.pc) : jsrHighByte s = b := by
  rw [← jsrPrelude_codeByte h] at hb
  have hpc : (jsrPrelude s).cpu.pc = s.cpu.pc := by simp [jsrPrelude]
  have e := (fetchByte_of_codeByte (hpc.symm ▸ hb)).1
  rw [fetchByte, hpc] at e
  exact e

theorem jsrOperandStays_congr {s t : State} {a : Word} (hs : t.cpu.s = s.cpu.s) (hc : t.cart = s.cart)
    (h : s.jsrOperandStays a) : t.jsrOperandStays a := by
  rw [State.jsrOperandStays, hs, hc]
  exact h

theorem exists_jsr {i : Instr} (h : (encode i).headD 0 = jsrOpcode) : ∃ a, i = .jsr a := by
  obtain ⟨op, b1, b2, rfl⟩ := exists_instrOf i
  obtain rfl : op = jsrOpcode := by rw [← h, encode_instrOf]; rfl
  exact ⟨wordOf b2 b1, rfl⟩

theorem fetchCycles_le_length (i : Instr) : i.shape.fetchCycles ≤ (encode i).length := by
  rw [fetchCycles_eq]
  split
  · rename_i h
    obtain ⟨a, rfl⟩ := exists_jsr h
    exact Nat.le_succ 2
  · exact le_rfl

/-- Bytes that stand as code at PC are the bytes fetched, JSR's last one where its pushes leave it (R121, R541). -/
theorem fetchBytes_of_codeAt {s : State} {i : Instr} (h : s.codeAt s.cpu.pc (encode i))
    (hj : ∀ a, i = .jsr a → s.jsrOperandStays (s.cpu.pc + 2)) : (fetchBytes s).1 = encode i := by
  have code := fun n hn => fetchCycles_of_codeAt n (encode i) (s.withPipe Latches.idle) hn (codeAt_withPipe h)
  have hl := encode_length i
  have hop : (fetchByte (s.withPipe Latches.idle)).1 = (encode i).headD 0 := by
    have e : [(fetchByte (s.withPipe Latches.idle)).1] = (encode i).take 1 := (code 1 (by omega)).1
    calc (fetchByte (s.withPipe Latches.idle)).1
        = [(fetchByte (s.withPipe Latches.idle)).1].headD 0 := rfl
      _ = ((encode i).take 1).headD 0 := by rw [e]
      _ = (encode i).headD 0 := by cases encode i <;> rfl
  rw [fetchBytes_eq, hop]
  split
  · rename_i h20
    obtain ⟨a, rfl⟩ := exists_jsr h20
    obtain ⟨hb, ht⟩ := code 2 (Nat.le_succ 2)
    obtain ⟨-, -, h3, -⟩ := h
    have hpc : (fetchCyclesFrom 2 (s.withPipe Latches.idle)).cpu.pc = s.cpu.pc + 2 := by rw [ht.cpu]; rfl
    have hhi : jsrHighByte (fetchCyclesFrom 2 (s.withPipe Latches.idle)) = highByte a := by
      refine jsrHighByte_of_codeByte ?_ ?_
      · rw [hpc, codeByte_congr (s := s) ht.cart fun _ _ => by rw [ht.ram]; rfl, ← h3, BitVec.add_assoc]
        rfl
      · rw [hpc]
        exact jsrOperandStays_congr (s := s) (by rw [ht.cpu]; rfl) ht.cart (hj a rfl)
    rw [hb, hhi]
    rfl
  · rw [← hl, (code _ le_rfl).1, List.take_length]

/-- Settles O6: the bytes fetched are those of `i`, so they decode to it, and over plain code a fetch cycle moves PC only. -/
theorem stepRunsTheCodeAtPc : Obligations.StepRunsTheCodeAtPc := by
  intro s i hs hp h hj
  have hi : (fetch s).1 = i := by
    have e := decode_fetchBytes s
    rw [fetchBytes_of_codeAt h hj, ← List.append_nil (encode i), decodeInvertsEncode] at e
    cases e
    rfl
  obtain ⟨-, ht⟩ := fetchCycles_of_codeAt i.shape.fetchCycles (encode i) (s.withPipe Latches.idle)
    (fetchCycles_le_length i) (codeAt_withPipe h)
  exact ⟨_, by rw [step_of_boundary hs hp, exec_eq_run, fetch_snd, hi], rfl, ht.cpu, ht.pipe, ht.cpuFault, ht.ram, ht.cart,
    ht.cfg, ht.tiaRegs, ht.ora, ht.orb, ht.ddra, ht.ddrb⟩

end Sys2Proof.Proofs
end

section
/-! SUPPORT. The addressing modes (30_encoding.md R124 to R132; 70_reset_and_hazards.md R524 to R537). -/

namespace Sys2Proof.Proofs

open Sys2Proof.Machine Sys2Proof.Laws

/-- A mode without correction reads its base address (R524 to R535). -/
theorem read_of_not_corrects {o : MemOperand} (h : o.corrects = false) (s : State) :
    o.read s = cycleRead (o.base s).1 (o.base s).2.2 := by
  rw [read_of_not_pageCrossed (by rw [MemOperand.pageCrossed, h, Bool.false_and]), effectiveAddress_of_not_corrects h]

/-- A mode with correction reads the uncorrected address before the effective one only where the index carries (R531,
R536). -/
theorem read_of_corrects {o : MemOperand} (h : o.corrects = true) (s : State) :
    o.read s =
      if 255 < (lowByte (o.base s).1).toNat + (o.base s).2.1.toNat then
        cycleRead (o.effectiveAddress s) (cycleDummy (uncorrected (o.base s).1 (o.base s).2.1) (o.base s).2.2)
      else cycleRead (o.effectiveAddress s) (o.base s).2.2 := by
  have hp : o.pageCrossed s = decide (255 < (lowByte (o.base s).1).toNat + (o.base s).2.1.toNat) := by
    rw [MemOperand.pageCrossed, h, Bool.true_and, crossesPage]
  split
  · rename_i hc
    exact read_of_pageCrossed (hp.trans (decide_eq_true hc))
  · rename_i hc
    exact read_of_not_pageCrossed (hp.trans (decide_eq_false hc))

/-- For a store or a read-modify-write instruction it reads the uncorrected address always (R532, R533, R537). -/
theorem address_of_corrects {o : MemOperand} (h : o.corrects = true) (s : State) :
    o.address s = (o.effectiveAddress s, cycleDummy (uncorrected (o.base s).1 (o.base s).2.1) (o.base s).2.2) := by
  rw [MemOperand.address, if_pos h, MemOperand.effectiveAddress]

/-- Settles O13: a mode reads its base, then the uncorrected address where it corrects (a read instruction: only where the
index carries), and ends at the effective address. -/
theorem addressingModes : Obligations.AddressingModes := by
  intro b a s
  refine ⟨read_of_not_corrects rfl s, read_of_not_corrects rfl s, read_of_not_corrects rfl s, read_of_not_corrects rfl s,
    ?_, ?_, ?_, rfl, effectiveAddress_of_not_corrects rfl s, rfl, effectiveAddress_of_not_corrects rfl s, rfl,
    effectiveAddress_of_not_corrects rfl s, rfl, effectiveAddress_of_not_corrects rfl s⟩
  · simp only [List.forall_mem_cons, List.not_mem_nil, false_imp_iff, implies_true, and_true]
    exact ⟨⟨lowByte_toNat a ▸ read_of_corrects rfl s, rfl, rfl⟩, lowByte_toNat a ▸ read_of_corrects rfl s, rfl, rfl⟩
  · exact ⟨read_of_not_corrects rfl s, rfl, effectiveAddress_of_not_corrects rfl s⟩
  · have hr := read_of_corrects (o := .indy b) rfl s
    have ha := address_of_corrects (o := .indy b) rfl s
    simp only [MemOperand.base, readPointer, uncorrected, lowByte_wordOf, highByte_wordOf] at hr ha
    exact ⟨hr, ha, rfl⟩

end Sys2Proof.Proofs
end

section
/-! SUPPORT. Branches, jumps and subroutines (30_encoding.md R130, R133; 45_branch_jump.md R230 to R241;
70_reset_and_hazards.md R538 to R542), and the undocumented opcodes (30_encoding.md R150, R153; 60_exceptions.md R401). -/

namespace Sys2Proof.Proofs

open Sys2Proof.Machine Sys2Proof.Laws

/-! ### Branches -/

/-- The target is the signed displacement from PC, in integers (R133). -/
theorem branchTarget_eq (pc : Word) (d : Byte) : branchTarget pc d = BitVec.ofInt 16 ((pc.toNat : Int) + d.toInt) := by
  rw [BitVec.ofInt_add, BitVec.ofInt_natCast, BitVec.ofNat_toNat, BitVec.setWidth_eq]
  rfl

theorem highByte_eq_iff (a b : Word) : highByte a = highByte b ↔ a.toNat / 256 = b.toNat / 256 := by
  rw [← BitVec.toNat_inj, highByte_toNat, highByte_toNat]

theorem runBranch_of_not_holds {c : Cond} {s : State} (h : c.holds s.cpu = false) (d : Byte) : runBranch c d s = s := by
  simp only [runBranch, h, Bool.false_eq_true, if_false]

/-- A taken branch: one dummy read or, to another page, two, and the new PC (R230, R538). -/
theorem runBranch_of_holds {c : Cond} {s : State} (h : c.holds s.cpu = true) (d : Byte) :
    runBranch c d s =
      (if highByte (branchTarget s.cpu.pc d) = highByte s.cpu.pc then cycleDummy s.cpu.pc s
        else cycleDummy (wordOf (highByte s.cpu.pc) (lowByte (branchTarget s.cpu.pc d))) (cycleDummy s.cpu.pc s)).withCpu
        { s.cpu with pc := branchTarget s.cpu.pc d } := by
  simp only [runBranch, h, if_true]
  split <;> simp [State.mapCpu, Cpu.setPc]

/-- Settles O25: each of the eight is the branch operation under its condition. -/
theorem branchResults : Obligations.BranchResults := by
  intro d s q hq
  obtain ⟨c, hshape, hcond⟩ : ∃ c, q.1.shape = .branch c d ∧ q.2 = c.holds s.cpu := by
    simp only [List.mem_cons, List.not_mem_nil, or_false] at hq
    rcases hq with rfl | rfl | rfl | rfl | rfl | rfl | rfl | rfl
    exacts [⟨.bpl, rfl, rfl⟩, ⟨.bmi, rfl, rfl⟩, ⟨.bvc, rfl, rfl⟩, ⟨.bvs, rfl, rfl⟩, ⟨.bcc, rfl, rfl⟩,
      ⟨.bcs, rfl, rfl⟩, ⟨.bne, rfl, rfl⟩, ⟨.beq, rfl, rfl⟩]
  rw [exec_eq_run, hshape, hcond, ← branchTarget_eq]
  refine ⟨fun h => congrArg _ (runBranch_of_not_holds h d), fun h => ?_⟩
  have e := runBranch_of_holds h d
  have hc := branch_cycles c d s
  simp only [highByte_eq_iff] at e
  simp only [e, Shape.reads, h, if_true, highByte_eq_iff] at hc
  refine ⟨_, congrArg _ e, fun hp => ?_, fun hp => ?_, rfl, cpuFault_of_cycles hc, frame_of_cycles hc⟩
  · rw [if_pos hp]
    rfl
  · rw [if_neg hp]
    rfl

/-! ### The stack -/

/-- The RAM cell of a stack address (R12, R65). -/
theorem ram_cell_of_stackPage {b : Byte} {k : Nat} (h : busTarget (stackPage b) = .ram k) : k = b.toNat % 128 := by
  have e : (stackPage b).toNat = 256 + b.toNat := by rw [stackPage, wordOf_toNat]; rfl
  unfold busTarget at h
  split_ifs at h
  cases h
  omega

/-- Two stack addresses next to each other are not the same cell of RAM (R12, R65). -/
theorem stackPage_pred_ne {b : Byte} {k : Nat} (h : busTarget (stackPage b) = .ram k) :
    busTarget (stackPage (b - 1)) ≠ .ram k := fun h' => by
  have e := ram_cell_of_stackPage h
  have e' := ram_cell_of_stackPage h'
  rw [BitVec.toNat_sub, show (1 : Byte).toNat = 1 from rfl] at e'
  omega

theorem read_push_ram (v : Byte) (s : State) (k : Nat) :
    Memory.read (push v s).ram k = if busTarget (stackPage s.cpu.s) = .ram k then v else Memory.read s.ram k :=
  read_cycleWrite_ram _ v s k

theorem pull_of_ram {s : State} {k : Nat} (h : busTarget (stackPage (s.cpu.s + 1)) = .ram k) :
    (pull s).1 = Memory.read s.ram k := cycleRead_of_ram h _

@[simp] theorem pull_ram (s : State) : (pull s).2.ram = s.ram := cycleRead_ram _ _

@[simp] theorem cycleDummy_ram (a : Word) (s : State) : (cycleDummy a s).ram = s.ram := cycleRead_ram a s

/-! ### Jumps and subroutines -/

theorem runJmpInd_cpu (a : Word) (s : State) :
    (runJmpInd a s).cpu = { s.cpu with
      pc := wordOf (cycleRead (wordOf (highByte a) (lowByte a + 1)) (cycleRead a s).2).1 (cycleRead a s).1 } := by
  simp [runJmpInd, State.mapCpu, Cpu.setPc]

theorem runJsr_cpu (a : Word) (s : State) : (runJsr a s).cpu = { s.cpu with s := s.cpu.s - 2, pc := a } := by
  simp [runJsr, jsrPrelude, State.mapCpu, Cpu.setPc, Cpu.decS, BitVec.sub_sub]

/-- JSR pushes PC, high byte first (R240). -/
theorem read_runJsr_ram (a : Word) (s : State) (k : Nat) :
    Memory.read (runJsr a s).ram k =
      if busTarget (stackPage (s.cpu.s - 1)) = .ram k then lowByte s.cpu.pc
      else if busTarget (stackPage s.cpu.s) = .ram k then highByte s.cpu.pc else Memory.read s.ram k := by
  have e : (runJsr a s).ram = (jsrPrelude s).ram := cycleDummy_ram _ _
  rw [e, jsrPrelude, read_push_ram, read_push_ram]
  simp [Cpu.decS]

theorem runRts_cpu (s : State) : (runRts s).cpu = { s.cpu with s := s.cpu.s + 2, pc := rtsReturn s + 1 } := by
  simp [runRts, rtsReturn, State.mapCpu, Cpu.setPc, Cpu.incS, BitVec.add_assoc]

/-- Settles O26: each of the four is its cycles and its effect on the registers; what JSR stores is read back from its two
pushes, and what the others load is read from RAM that their cycles leave. -/
theorem jumpsAndSubroutines : Obligations.JumpsAndSubroutines := by
  intro a s
  simp only [exec_eq_run]
  refine ⟨rfl, ?_, ?_, ?_⟩
  · have hc := run_cycles (.jmpInd a) s
    refine ⟨runJmpInd a s, _, _, rfl, rfl, rfl, fun k h => cycleRead_of_ram h s, fun k h => ?_, runJmpInd_cpu a s,
      cpuFault_of_cycles hc, frame_of_cycles hc⟩
    rw [cycleRead_of_ram h, cycleRead_ram]
  · have hc := jsr_cycles a s
    refine ⟨runJsr a s, rfl, runJsr_cpu a s, cpuFault_of_cycles hc, fun k h => ?_, fun k h => ?_, frame_of_cycles hc⟩
    · rw [read_runJsr_ram, if_neg (stackPage_pred_ne h), if_pos h]
    · rw [read_runJsr_ram, if_pos h]
  · have hc := rts_cycles s
    refine ⟨runRts s, _, _, rfl, rfl, fun k h => ?_, fun k h => ?_, runRts_cpu s, cpuFault_of_cycles hc,
      frame_of_cycles hc⟩
    · rw [pull_of_ram (by simpa using h), cycleDummy_ram, cycleDummy_ram]
    · rw [pull_of_ram (k := k) (by simpa [BitVec.add_assoc] using h), pull_ram, cycleDummy_ram, cycleDummy_ram]

/-! ### Undocumented opcodes -/

/-- Under `fatal` the meaning ends with the record (R150, R401). -/
theorem undocumented_of_fatal {s : State} (hp : s.cfg.unimplPolicy = .fatal) (opcode : Byte) :
    undocumented opcode s = raiseUnimplemented (s.cpu.pc - 1) opcode s := by
  simp only [undocumented, hp]

/-- Under `skip` a dummy read at PC follows the record (R153). -/
theorem undocumented_of_skip {s : State} (hp : s.cfg.unimplPolicy = .skip) (opcode : Byte) :
    undocumented opcode s = cycleDummy s.cpu.pc (raiseUnimplemented (s.cpu.pc - 1) opcode s) := by
  simp only [undocumented, hp]
  rfl

/-- Settles O30: the class of an ill-formed instruction holds its opcode byte, and the policy decides whether a dummy read
follows the record. -/
theorem undocumentedOpcodes : Obligations.UndocumentedOpcodes := by
  refine ⟨fun i s hw => ?_, fun s => step_of_stuck⟩
  rw [exec_eq_run, shape_of_not_wellFormed hw]
  generalize (encode i).headD 0 = opcode
  refine ⟨fun hp => congrArg _ (undocumented_of_fatal hp opcode), fun hp => ?_⟩
  have k := cycleDummy_keeps s.cpu.pc (raiseUnimplemented (s.cpu.pc - 1) opcode s)
  exact ⟨_, congrArg _ (undocumented_of_skip hp opcode), rfl, k.cpu, k.cpuFault,
    frame_trans (recordFault_frame (.undocumented opcode) s) (cycleDummy_frame _ _)⟩

end Sys2Proof.Proofs
end

section
/-! SUPPORT. The cycles of a step that no WSYNC stall interrupts (70_reset_and_hazards.md R520, R546, R547; 60_exceptions.md
R430, R462). -/

namespace Sys2Proof.Proofs

open Sys2Proof.Machine Sys2Proof.Laws

/-! ### Cycles without a stall -/

/-- Only register `$02` asserts RDY (R462); `split` numbers the registers of the table from 1. -/
theorem tia_write_wsyncHalt (cfg : Config) (t : Tia) {r : Nat} (v : Byte) (h : r ≠ 0x02) :
    (t.write cfg r v).wsyncHalt = t.wsyncHalt := by
  unfold Tia.write
  split
  case h_3 => exact absurd rfl h
  all_goals rfl

/-- RDY is not asserted and the counter stands at `n` (R33, R35). -/
def FreeAt (n : Nat) (s : State) : Prop := s.tia.wsyncHalt = false ∧ s.cycleCounter = n

section

variable {n : Nat} {s : State}

theorem freeAt_cycleRead (a : Word) (h : FreeAt n s) : FreeAt (n + 1) (cycleRead a s).2 := by
  obtain ⟨hw, hn⟩ := h
  have hr := ready_eq_tickDevices s hw
  refine ⟨?_, ?_⟩
  · rw [cycleRead, endCall_tia, memRead_tia, hr]
    exact tickDevices_not_stalled s hw
  · rw [cycleRead, endCall_cycleCounter, (memRead_keeps a _).cycleCounter, hr, tickDevices_cycleCounter, hn]

theorem cycleWrite_counter (a : Word) (v : Byte) (h : FreeAt n s) : (cycleWrite a v s).cycleCounter = n + 1 := by
  rw [cycleWrite, endCall_cycleCounter, (memWrite_keeps a v _).cycleCounter, ready_eq_tickDevices s h.1,
    tickDevices_cycleCounter, h.2]

theorem freeAt_cycleWrite {a : Word} (v : Byte) (h : FreeAt n s) (ha : isWsync a = false) :
    FreeAt (n + 1) (cycleWrite a v s) := by
  refine ⟨?_, cycleWrite_counter a v h⟩
  have hf : s.ready.tia.wsyncHalt = false := ready_not_stalled s
  rw [cycleWrite, endCall_tia]
  by_cases ht : busTarget a = .tia
  · have hr : a.toNat % 64 ≠ 0x02 := by simpa [isWsync, ht] using ha
    rw [memWrite_tia_of_target v _ ht, tia_write_wsyncHalt _ _ _ hr, hf]
  · rw [memWrite_tia a v _ ht, hf]

/-- Where no write asserts RDY, every cycle is one call (R430, R520). -/
theorem freeAt_of_cycles {r w : List Word} {t : State} (hc : Cycles r w s t) (h : FreeAt n s)
    (hw : ∀ a ∈ w, isWsync a = false) : FreeAt (n + r.length + w.length) t := by
  induction hc with
  | refl => exact h
  | read a _ ih =>
    rw [List.length_append, List.length_singleton, ← Nat.add_assoc, Nat.add_right_comm]
    exact freeAt_cycleRead a (ih h hw)
  | write a v _ ih =>
    rw [List.length_append, List.length_singleton, ← Nat.add_assoc]
    exact freeAt_cycleWrite v (ih h fun b hb => hw b (List.mem_append_left _ hb)) (hw a (by simp))
  | cpu f _ ih => exact ih h hw
  | draws k _ ih => exact ih h hw

/-- A meaning takes one call for each access where none of its writes but the last asserts RDY (R520, R549). -/
theorem run_counter (k : Shape) (h : FreeAt n s) (hw : ∀ a ∈ k.earlyWrites s, isWsync a = false) :
    (run k s).cycleCounter = n + k.meaningCycles s := by
  have all : k.writes s = k.earlyWrites s → (run k s).cycleCounter = n + k.meaningCycles s := fun e => by
    have hr : FreeAt n (recordFault k s) := by cases k <;> exact h
    rw [(freeAt_of_cycles (run_cycles k s) hr (e ▸ hw)).2, Shape.meaningCycles, Nat.add_assoc]
  cases k with
  | store r o => exact cycleWrite_counter _ _ (freeAt_of_cycles (address_cycles o s) h (by simp))
  | push r => exact cycleWrite_counter _ _ (freeAt_cycleRead s.cpu.pc h)
  | rmw op o =>
    have ha : isWsync (o.address s).1 = false := by rw [address_fst]; exact hw _ (List.mem_singleton.mpr rfl)
    have h1 := freeAt_cycleRead (o.address s).1 (freeAt_of_cycles (address_cycles o s) h (by simp))
    exact (cycleWrite_counter _ _ (freeAt_cycleWrite _ h1 ha)).trans
      (by simp [Shape.meaningCycles, Shape.reads, Shape.writes, Nat.add_assoc])
  | _ => exact all rfl

end

/-- A fetch cycle is one read cycle (R520). -/
theorem fetchCyclesFrom_cycles (n : Nat) : ∀ s, ∃ r, r.length = n ∧ Cycles r [] s (fetchCyclesFrom n s) := by
  induction n with
  | zero => exact fun s => ⟨[], rfl, .refl s⟩
  | succ n ih =>
    intro s
    obtain ⟨r, hr, hc⟩ := ih (fetchByte s).2
    exact ⟨_, by simp [hr], (fetchByte_cycles s).trans hc⟩

/-! ### The cycle table -/

/-- The table of R140 is the one of R547, which goes by class. -/
theorem tableCycles_eq (i : Instr) : tableCycles i = i.shape.baseCycles := by cases i <;> rfl

/-- Fetch and accesses together are the base count and the penalties (R546, R547). -/
theorem fetchCycles_add_meaningCycles (k : Shape) (s : State) :
    k.fetchCycles + k.meaningCycles s = k.baseCycles + k.penalty s := by
  cases k with
  | read op o =>
    cases o with
    | imm v => rfl
    | mem o =>
      have hb : o.operandBytes + 1 + (o.baseReads s).length + 1 = (Shape.read op (.mem o)).baseCycles := by cases o <;> rfl
      simp only [Shape.meaningCycles, Shape.reads, ReadOperand.reads, Shape.writes, Shape.penalty, Shape.fetchCycles,
        ← hb]
      split <;> simp [Nat.add_assoc]
  | store r o => cases o <;> rfl
  | rmw op o => cases o <;> rfl
  | branch c d =>
    simp only [Shape.meaningCycles, Shape.reads, Shape.penalty, Shape.writes, Shape.fetchCycles, Shape.baseCycles]
    split_ifs <;> rfl
  | undocumented opcode =>
    simp only [Shape.meaningCycles, Shape.reads, Shape.penalty]
    cases s.cfg.unimplPolicy <;> rfl
  | _ => rfl

/-- Settles O33: fetch and meaning take one call a cycle, and their cycles are the table's and the penalties. -/
theorem stepTakesTheTableCycles : Obligations.StepTakesTheTableCycles := by
  intro s hs hp hw he
  obtain ⟨r, hr, hc⟩ := fetchCyclesFrom_cycles (fetch s).1.shape.fetchCycles (s.withPipe Latches.idle)
  have h0 : FreeAt s.cycleCounter (s.withPipe Latches.idle) := ⟨hw, rfl⟩
  have h1 := freeAt_of_cycles hc h0 (by simp)
  rw [← fetch_snd, hr] at h1
  refine ⟨_, step_of_boundary hs hp, ?_⟩
  rw [run_counter _ h1 he, tableCycles_eq]
  have hk := fetchCycles_add_meaningCycles (fetch s).1.shape (fetch s).2
  rw [List.length_nil]
  omega

end Sys2Proof.Proofs
end

section
/-! SUPPORT. What every read instruction and every store does, whichever its mode, and with it the loads and stores
(40_load_store.md R160 to R166; 70_reset_and_hazards.md R523 to R537). -/

namespace Sys2Proof.Proofs

open Sys2Proof.Machine Sys2Proof.Laws

/-! ### Operands -/

/-- Cycles that write nothing leave RAM (R65). -/
theorem read_ram_of_cycles {r : List Word} {s t : State} (h : Cycles r [] s t) (k : Nat) :
    Memory.read t.ram k = Memory.read s.ram k :=
  (frame_of_cycles h).ram k (by simp)

@[simp] theorem base_cpu (o : MemOperand) (s : State) : (o.base s).2.2.cpu = s.cpu := by
  cases o <;> simp [MemOperand.base]

@[simp] theorem address_cpu (o : MemOperand) (s : State) : (o.address s).2.cpu = s.cpu := by
  unfold MemOperand.address
  cases o.corrects <;> simp

/-- The operand is one read of the effective address, after cycles that write nothing and leave the registers. -/
theorem exists_read_eq (o : MemOperand) (s : State) :
    ∃ r u, Cycles r [] s u ∧ u.cpu = s.cpu ∧ o.read s = cycleRead (o.effectiveAddress s) u := by
  have hb := base_cycles o s
  cases h : o.pageCrossed s
  · exact ⟨_, _, hb, base_cpu o s, read_of_not_pageCrossed h⟩
  · exact ⟨_, _, hb.dummy _, by simp, read_of_pageCrossed h⟩

@[simp] theorem readOperand_cpu (o : ReadOperand) (s : State) : (o.read s).2.cpu = s.cpu := by
  cases o with
  | imm v => rfl
  | mem o =>
    obtain ⟨r, u, -, hu, e⟩ := exists_read_eq o s
    rw [ReadOperand.read, e, cycleRead_cpu, hu]

/-- The byte that the mode's cycles read is the operand byte (R160). -/
theorem operandIs_read (o : ReadOperand) (s : State) : OperandIs o s (o.read s).1 := by
  cases o with
  | imm v => exact ⟨rfl, rfl⟩
  | mem o =>
    refine ⟨rfl, fun k hk => ?_⟩
    obtain ⟨r, u, hc, -, e⟩ := exists_read_eq o s
    rw [ReadOperand.read, e, cycleRead_of_ram hk, read_ram_of_cycles hc]

/-! ### Read instructions -/

theorem shape_of_readForms {op : ReadOp} {b : Byte} {a : Word} {p : Instr × ReadOperand} (hp : p ∈ readForms op b a) :
    p.1.shape = .read op p.2 := by
  have shapes : (readForms op b a).map (fun q => q.1.shape) = (readForms op b a).map fun q => .read op q.2 := by
    cases op <;> rfl
  exact List.map_inj_left.mp shapes p hp

/-- A form of a read instruction ends in its effect on the operand byte, from a machine with the registers and parameters
it started with, and stores nothing (R160, R185, R200). -/
theorem exec_readForm {op : ReadOp} {b : Byte} {a : Word} {p : Instr × ReadOperand} (hp : p ∈ readForms op b a)
    (s : State) :
    ∃ t m, exec p.1 s = .next t ∧ OperandIs p.2 s m ∧ (∃ u, u.cpu = s.cpu ∧ u.cfg = s.cfg ∧ t = op.apply m u) ∧
      t.cpuFault = s.cpuFault ∧ Frame (p.2.reads s) [] s t := by
  have hc := run_cycles (.read op p.2) s
  exact ⟨run (.read op p.2) s, (p.2.read s).1, by rw [exec_eq_run, shape_of_readForms hp], operandIs_read p.2 s,
    ⟨(p.2.read s).2, readOperand_cpu p.2 s, (readOperand_cycles p.2 s).cfg, rfl⟩, cpuFault_of_cycles hc,
    frame_of_cycles hc⟩

/-- The same where the effect on the registers is `c` of the operand byte. -/
theorem exec_readForm_cpu {op : ReadOp} {b : Byte} {a : Word} {p : Instr × ReadOperand} {s : State} {c : Byte → Cpu}
    (hp : p ∈ readForms op b a) (effect : ∀ m u, u.cpu = s.cpu → u.cfg = s.cfg → (op.apply m u).cpu = c m) :
    ∃ t m, exec p.1 s = .next t ∧ OperandIs p.2 s m ∧ t.cpu = c m ∧ t.cpuFault = s.cpuFault ∧
      Frame (p.2.reads s) [] s t := by
  obtain ⟨t, m, he, hm, ⟨u, hu, hcfg, rfl⟩, hf, hframe⟩ := exec_readForm hp s
  exact ⟨_, m, he, hm, effect m u hu hcfg, hf, hframe⟩

/-! ### Loads -/

/-- N and Z follow the value (00_scope.md R9). -/
theorem setNZ_eq (c : Cpu) (v : Byte) : c.setNZ v = { c with n := v.getLsbD 7, z := decide (v = 0) } := rfl

theorem lda_cpu (m : Byte) (s : State) :
    (ReadOp.lda.apply m s).cpu = { s.cpu with a := m, n := m.getLsbD 7, z := decide (m = 0) } := setNZ_eq _ m

theorem ldx_cpu (m : Byte) (s : State) :
    (ReadOp.ldx.apply m s).cpu = { s.cpu with x := m, n := m.getLsbD 7, z := decide (m = 0) } := setNZ_eq _ m

theorem ldy_cpu (m : Byte) (s : State) :
    (ReadOp.ldy.apply m s).cpu = { s.cpu with y := m, n := m.getLsbD 7, z := decide (m = 0) } := setNZ_eq _ m

/-- Settles O14: a load is a read instruction whose effect is its register, N and Z. -/
theorem loadResults : Obligations.LoadResults := fun _ _ _ =>
  ⟨fun _ hp => exec_readForm_cpu hp fun m u hu _ => by rw [lda_cpu, hu],
    fun _ hp => exec_readForm_cpu hp fun m u hu _ => by rw [ldx_cpu, hu],
    fun _ hp => exec_readForm_cpu hp fun m u hu _ => by rw [ldy_cpu, hu]⟩

/-! ### Stores -/

theorem shape_of_storeForms {r : StoreReg} {b : Byte} {a : Word} {p : Instr × MemOperand} (hp : p ∈ storeForms r b a) :
    p.1.shape = .store r p.2 := by
  have shapes : (storeForms r b a).map (fun q => q.1.shape) = (storeForms r b a).map fun q => .store r q.2 := by
    cases r <;> rfl
  exact List.map_inj_left.mp shapes p hp

/-- A store is one write of the register at the effective address after the mode's reads (R160, R525). -/
theorem runStore_eq (r : StoreReg) (o : MemOperand) (s : State) :
    runStore r o s = cycleWrite (o.effectiveAddress s) (r.value s.cpu) (o.address s).2 := by
  rw [runStore, address_fst]

/-- Settles O15: each form is the store operation, which is the mode's reads and one write. -/
theorem storeResults : Obligations.StoreResults := by
  intro b a s q hq p hp
  have hv : q.2 = q.1.value s.cpu := by
    simp only [List.mem_cons, List.not_mem_nil, or_false] at hq
    rcases hq with rfl | rfl | rfl <;> rfl
  have hc := run_cycles (.store q.1 p.2) s
  have e : run (.store q.1 p.2) s = cycleWrite (p.2.effectiveAddress s) q.2 (p.2.address s).2 := hv ▸ runStore_eq _ _ s
  refine ⟨run (.store q.1 p.2) s, by rw [exec_eq_run, shape_of_storeForms hp], e, ?_, cpuFault_of_cycles hc, fun k hk => ?_,
    frame_of_cycles hc⟩
  · rw [e, cycleWrite_cpu, address_cpu]
  · rw [e, read_cycleWrite_ram, if_pos hk]

end Sys2Proof.Proofs
end

section
/-! SUPPORT. Transfers and counts, pushes and pulls, and the stack instructions that undo each other (10_state.md R24;
41_transfer_stack.md R170 to R180; 44_shift_incdec.md R217 to R220; 45_branch_jump.md R240, R241; 46_flag_system.md R258,
R259; 60_exceptions.md R408; 70_reset_and_hazards.md R522, R541 to R545). -/

namespace Sys2Proof.Proofs

open Sys2Proof.Machine Sys2Proof.Laws

/-! ### Transfers and counts -/

theorem runImplied_cpu (op : ImpliedOp) (s : State) : (runImplied op s).cpu = op.apply s.cpu := by
  simp [runImplied, State.mapCpu]

/-- An implied instruction of two cycles is its effect on the registers; its one cycle reads PC (R522). -/
theorem exec_implied {i : Instr} {op : ImpliedOp} (h : i.shape = .implied op) (s : State) :
    ∃ t, exec i s = .next t ∧ t.cpu = op.apply s.cpu ∧ t.cpuFault = s.cpuFault ∧ Frame [s.cpu.pc] [] s t := by
  have hc := run_cycles (.implied op) s
  exact ⟨run (.implied op) s, by rw [exec_eq_run, h], runImplied_cpu op s, cpuFault_of_cycles hc, frame_of_cycles hc⟩

theorem byte_add_one_eq_zero_iff (v : Byte) : v + 1 = 0 ↔ v = 0xFF := by bv_omega

theorem byte_sub_one_eq_zero_iff (v : Byte) : v - 1 = 0 ↔ v = 0x01 := by bv_omega

/-- Settles O24: each of the ten is an implied instruction, and INX, INY reach 0 from $FF, DEX, DEY from $01. -/
theorem transfersAndCounts : Obligations.TransfersAndCounts := by
  intro s q hq
  obtain ⟨op, hshape, hcpu⟩ : ∃ op, q.1.shape = .implied op ∧ op.apply s.cpu = q.2 := by
    simp only [← byte_add_one_eq_zero_iff, ← byte_sub_one_eq_zero_iff, List.mem_cons, List.not_mem_nil, or_false] at hq
    rcases hq with rfl | rfl | rfl | rfl | rfl | rfl | rfl | rfl | rfl | rfl
    exacts [⟨.tax, rfl, rfl⟩, ⟨.tay, rfl, rfl⟩, ⟨.txa, rfl, rfl⟩, ⟨.tya, rfl, rfl⟩, ⟨.tsx, rfl, rfl⟩, ⟨.txs, rfl, rfl⟩,
      ⟨.inx, rfl, rfl⟩, ⟨.iny, rfl, rfl⟩, ⟨.dex, rfl, rfl⟩, ⟨.dey, rfl, rfl⟩]
  exact hcpu ▸ exec_implied hshape s

/-! ### The status byte -/

/-- The status byte as a number: its bits by their weights (R24). -/
theorem pByte_true (c : Cpu) : c.pByte true = statusByte c := by
  obtain ⟨-, -, -, -, -, n, v, -, d, i, z, k⟩ := c
  simp only [Cpu.pByte, statusByte]
  revert n v d i z k
  decide

theorem pByte_bits (c : Cpu) (b : Bool) :
    [7, 6, 4, 3, 2, 1, 0].map (c.pByte b).getLsbD = [c.n, c.v, b, c.d, c.i, c.z, c.c] := by
  obtain ⟨-, -, -, -, -, n, v, -, d, i, z, k⟩ := c
  simp only [Cpu.pByte]
  revert n v b d i z k
  decide

/-- The flags that a status byte carries come back from it; the stored B becomes its bit 4 (R24, R180). -/
theorem setP_pByte (r c : Cpu) (b : Bool) :
    r.setP (c.pByte b) = { r with n := c.n, v := c.v, b := b, d := c.d, i := c.i, z := c.z, c := c.c } := by
  have h := pByte_bits c b
  simp only [List.map_cons, List.cons.injEq] at h
  obtain ⟨hn, hv, hb, hd, hi, hz, hc, -⟩ := h
  rw [Cpu.setP, hn, hv, hb, hd, hi, hz, hc]

/-! ### Pushes and pulls -/

theorem runPush_eq (r : PushReg) (s : State) :
    runPush r s =
      (cycleWrite (stackPage s.cpu.s) (r.value s.cpu) (cycleDummy s.cpu.pc s)).withCpu { s.cpu with s := s.cpu.s - 1 } := by
  simp [runPush, push, State.mapCpu, Cpu.decS]

@[simp] theorem runPush_cpu (r : PushReg) (s : State) : (runPush r s).cpu = s.cpu.decS := by simp [runPush]

theorem read_runPush_ram (r : PushReg) (s : State) (k : Nat) :
    Memory.read (runPush r s).ram k =
      if busTarget (stackPage s.cpu.s) = .ram k then r.value s.cpu else Memory.read s.ram k := by
  simp [runPush, read_push_ram]

/-- The byte pulled does not depend on when S is raised. -/
theorem pull_fst (s : State) : (pull s).1 = (cycleRead (stackPage (s.cpu.s + 1)) s).1 := by rw [pull, cycleRead_mapCpu]

/-- The byte that PLA and PLP pull, after their dummy reads of PC and of the stack (R543). -/
def pulledByte (s : State) : Byte :=
  (cycleRead (stackPage (s.cpu.s + 1)) (cycleDummy (stackPage s.cpu.s) (cycleDummy s.cpu.pc s))).1

theorem pulledByte_of_ram {s : State} {k : Nat} (h : busTarget (stackPage (s.cpu.s + 1)) = .ram k) :
    pulledByte s = Memory.read s.ram k := by
  rw [pulledByte, cycleRead_of_ram h, cycleDummy_ram, cycleDummy_ram]

theorem runPull_cpu (r : PushReg) (s : State) : (runPull r s).cpu = r.pulled (pulledByte s) s.cpu.incS := by
  simp [runPull, pull_fst, pulledByte, State.mapCpu]

/-- Settles O27: the two pushes are one operation over the byte, the two pulls one over the effect of the byte. -/
theorem pushAndPullResults : Obligations.PushAndPullResults := by
  intro s
  refine ⟨fun q hq => ?_, fun k h => pulledByte_of_ram h, fun q hq => ?_⟩
  · obtain ⟨r, hshape, hv⟩ : ∃ r, q.1.shape = .push r ∧ r.value s.cpu = q.2 := by
      simp only [List.mem_cons, List.not_mem_nil, or_false] at hq
      rcases hq with rfl | rfl
      exacts [⟨.a, rfl, rfl⟩, ⟨.p, rfl, pByte_true s.cpu⟩]
    have hc := run_cycles (.push r) s
    refine ⟨runPush r s, by rw [exec_eq_run, hshape]; rfl, hv ▸ runPush_eq r s, fun k h => ?_, cpuFault_of_cycles hc,
      frame_of_cycles hc⟩
    rw [read_runPush_ram, if_pos h, hv]
  · obtain ⟨r, hshape, hcpu⟩ : ∃ r, q.1.shape = .pull r ∧ r.pulled (pulledByte s) s.cpu.incS = q.2 := by
      simp only [List.mem_cons, List.not_mem_nil, or_false] at hq
      rcases hq with rfl | rfl
      exacts [⟨.a, rfl, rfl⟩, ⟨.p, rfl, rfl⟩]
    have hc := run_cycles (.pull r) s
    exact ⟨runPull r s, by rw [exec_eq_run, hshape]; rfl, hcpu ▸ runPull_cpu r s, cpuFault_of_cycles hc,
      frame_of_cycles hc⟩

/-! ### The trap and the return from it -/

/-- The machine after BRK's pushes of the address past its signature byte and of the status byte (R258, R544). -/
def brkPushes (s : State) : State :=
  push (s.cpu.pByte true) (push (lowByte (s.cpu.pc + 1)) (push (highByte (s.cpu.pc + 1))
    ((cycleDummy s.cpu.pc s).mapCpu Cpu.incPc)))

/-- BRK is its pushes, then the read of the vector (R258, R544). -/
theorem runBrk_eq (s : State) :
    runBrk s = (cycleRead 0xFFFF (cycleRead 0xFFFE (brkPushes s)).2).2.mapCpu fun c =>
      { c with
        i := true, b := true
        pc := wordOf (cycleRead 0xFFFF (cycleRead 0xFFFE (brkPushes s)).2).1 (cycleRead 0xFFFE (brkPushes s)).1 } := by
  have e : ((cycleDummy s.cpu.pc s).mapCpu Cpu.incPc).cpu = s.cpu.incPc := congrArg Cpu.incPc (cycleDummy_cpu _ s)
  simp only [runBrk, trapEntry, e]
  rfl

theorem brkPushes_cpu (s : State) : (brkPushes s).cpu = { s.cpu with s := s.cpu.s - 3, pc := s.cpu.pc + 1 } := by
  simp [brkPushes, State.mapCpu, Cpu.decS, Cpu.incPc, BitVec.sub_sub]

theorem runBrk_cpu (s : State) :
    (runBrk s).cpu = { s.cpu with
      s := s.cpu.s - 3, i := true, b := true
      pc := wordOf (cycleRead 0xFFFF (cycleRead 0xFFFE (brkPushes s)).2).1 (cycleRead 0xFFFE (brkPushes s)).1 } := by
  rw [runBrk_eq, State.mapCpu, withCpu_cpu, cycleRead_cpu, cycleRead_cpu, brkPushes_cpu]

/-- What BRK pushes stays in RAM through its two vector reads (R65, R258). -/
theorem read_runBrk_ram (s : State) (k : Nat) :
    Memory.read (runBrk s).ram k =
      if busTarget (stackPage (s.cpu.s - 2)) = .ram k then statusByte s.cpu
      else if busTarget (stackPage (s.cpu.s - 1)) = .ram k then lowByte (s.cpu.pc + 1)
      else if busTarget (stackPage s.cpu.s) = .ram k then highByte (s.cpu.pc + 1) else Memory.read s.ram k := by
  rw [runBrk_eq, State.mapCpu, withCpu_ram, cycleRead_ram, cycleRead_ram, brkPushes, read_push_ram, read_push_ram,
    read_push_ram, pByte_true]
  simp [State.mapCpu, Cpu.decS, Cpu.incPc, BitVec.sub_sub]

/-- The word that two pulls give, low byte first, as RTS and RTI pull their address (R241, R259). -/
def pulledWord (s : State) : Word := wordOf (pull (pull s).2).1 (pull s).1

theorem pulledWord_of_ram {s : State} {j k : Nat} (hlo : busTarget (stackPage (s.cpu.s + 1)) = .ram j)
    (hhi : busTarget (stackPage (s.cpu.s + 2)) = .ram k) :
    pulledWord s = wordOf (Memory.read s.ram k) (Memory.read s.ram j) := by
  have h2 : busTarget (stackPage ((pull s).2.cpu.s + 1)) = .ram k := by
    simpa [Cpu.incS, BitVec.add_assoc] using hhi
  rw [pulledWord, pull_of_ram hlo, pull_of_ram h2, pull_ram]

/-- The machine after RTI's pull of the status byte (R545). -/
def rtiPulled (s : State) : State :=
  (pull (cycleDummy (stackPage s.cpu.s) (cycleDummy s.cpu.pc s))).2.mapCpu fun c => c.setP (pulledByte s)

theorem rtiPulled_cpu (s : State) : (rtiPulled s).cpu = s.cpu.incS.setP (pulledByte s) := by
  simp [rtiPulled, State.mapCpu]

theorem rtiPulled_ram (s : State) : (rtiPulled s).ram = s.ram := by simp [rtiPulled, State.mapCpu]

theorem runRti_eq (s : State) :
    runRti s = (pull (pull (rtiPulled s)).2).2.mapCpu fun c => c.setPc (pulledWord (rtiPulled s)) := by
  simp [runRti, trapReturn, pulledWord, rtiPulled, pulledByte, pull_fst]

/-- RTI's effect on the registers (R259). -/
theorem runRti_cpu (s : State) :
    (runRti s).cpu = { s.cpu.setP (pulledByte s) with s := s.cpu.s + 3, pc := pulledWord (rtiPulled s) } := by
  rw [runRti_eq, State.mapCpu, withCpu_cpu, pull_cpu, pull_cpu, rtiPulled_cpu]
  simp [Cpu.setP, Cpu.setPc, Cpu.incS, BitVec.add_assoc]

/-! ### Round trips -/

/-- From S = $80 up the stack lies in RAM (R12, R62). -/
theorem exists_ram_of_stackPage {b : Byte} (h : 0x80 ≤ b.toNat) : ∃ k, busTarget (stackPage b) = .ram k := by
  have h7 : b.getLsbD 7 = true := by
    rw [← BitVec.msb_eq_getLsbD_last, BitVec.msb_eq_decide]
    exact decide_eq_true h
  refine ⟨_, busTarget_ram ?_ ?_ ?_⟩ <;> rw [stackPage, wordOf, BitVec.getLsbD_append]
  · rfl
  · exact h7
  · rfl

/-- Two stack addresses not 128 apart are not the same cell of RAM (R12, R65). -/
theorem stackPage_sub_ne {b j : Byte} {k : Nat} (h : busTarget (stackPage b) = .ram k) (hj : j.toNat % 128 ≠ 0) :
    busTarget (stackPage (b - j)) ≠ .ram k := fun h' => by
  have e := ram_cell_of_stackPage h
  have e' := ram_cell_of_stackPage h'
  rw [BitVec.toNat_sub] at e'
  omega

/-- PLA undoes PHA and PLP undoes PHP: the effect of the byte pushed, on registers as they were (R177 to R180). -/
theorem runPull_runPush_cpu (r : PushReg) {s : State} (h : 0x80 ≤ s.cpu.s.toNat) :
    (runPull r (runPush r s)).cpu = r.pulled (r.value s.cpu) s.cpu := by
  obtain ⟨k, hk⟩ := exists_ram_of_stackPage h
  have hm : pulledByte (runPush r s) = r.value s.cpu := by
    rw [pulledByte_of_ram (k := k) (by simpa [Cpu.decS] using hk), read_runPush_ram, if_pos hk]
  rw [runPull_cpu, hm, runPush_cpu]
  simp [Cpu.decS, Cpu.incS]

/-- RTS returns to the word that lies on a stack in RAM (R241). -/
theorem rtsReturn_of_ram {s : State} {j k : Nat} (hlo : busTarget (stackPage (s.cpu.s + 1)) = .ram j)
    (hhi : busTarget (stackPage (s.cpu.s + 2)) = .ram k) :
    rtsReturn s = wordOf (Memory.read s.ram k) (Memory.read s.ram j) := by
  rw [rtsReturn, ← pulledWord, pulledWord_of_ram (j := j) (k := k) (by simpa using hlo) (by simpa using hhi),
    cycleDummy_ram, cycleDummy_ram]

/-- RTI returns to the word that lies above the status byte on a stack in RAM (R259). -/
theorem rtiReturn_of_ram {s : State} {j k : Nat} (hlo : busTarget (stackPage (s.cpu.s + 2)) = .ram j)
    (hhi : busTarget (stackPage (s.cpu.s + 3)) = .ram k) :
    pulledWord (rtiPulled s) = wordOf (Memory.read s.ram k) (Memory.read s.ram j) := by
  have e : (rtiPulled s).cpu.s = s.cpu.s + 1 := by rw [rtiPulled_cpu]; rfl
  rw [pulledWord_of_ram (j := j) (k := k) (by simpa [e, BitVec.add_assoc] using hlo)
    (by simpa [e, BitVec.add_assoc] using hhi), rtiPulled_ram]

/-- RTS undoes JSR (R240, R241). -/
theorem runRts_runJsr_cpu (a : Word) {s : State} (h : 0x81 ≤ s.cpu.s.toNat) :
    (runRts (runJsr a s)).cpu = { s.cpu with pc := s.cpu.pc + 1 } := by
  obtain ⟨j, hj⟩ := exists_ram_of_stackPage (b := s.cpu.s - 1) (by bv_omega)
  obtain ⟨k, hk⟩ := exists_ram_of_stackPage (b := s.cpu.s) (by omega)
  have hlo : s.cpu.s - 2 + 1 = s.cpu.s - 1 := by bv_omega
  have hhi : s.cpu.s - 2 + 2 = s.cpu.s := BitVec.sub_add_cancel _ _
  have hret : rtsReturn (runJsr a s) = s.cpu.pc := by
    rw [rtsReturn_of_ram (j := j) (k := k) (by rwa [runJsr_cpu, hlo]) (by rwa [runJsr_cpu, hhi]), read_runJsr_ram,
      read_runJsr_ram, if_pos hj, if_neg (stackPage_pred_ne hk), if_pos hk, wordOf_highByte_lowByte]
  rw [runRts_cpu, hret, runJsr_cpu, hhi]

/-- RTI undoes BRK but for the stored B (R258, R259, R408). -/
theorem runRti_runBrk_cpu {s : State} (h : 0x82 ≤ s.cpu.s.toNat) :
    (runRti (runBrk s)).cpu = { s.cpu with pc := s.cpu.pc + 1, b := true } := by
  obtain ⟨i, hi⟩ := exists_ram_of_stackPage (b := s.cpu.s - 2) (by bv_omega)
  obtain ⟨j, hj⟩ := exists_ram_of_stackPage (b := s.cpu.s - 1) (by bv_omega)
  obtain ⟨k, hk⟩ := exists_ram_of_stackPage (b := s.cpu.s) (by omega)
  have e1 : s.cpu.s - 3 + 1 = s.cpu.s - 2 := by bv_omega
  have e2 : s.cpu.s - 3 + 2 = s.cpu.s - 1 := by bv_omega
  have e3 : s.cpu.s - 3 + 3 = s.cpu.s := BitVec.sub_add_cancel _ _
  have e21 : s.cpu.s - 1 - 1 = s.cpu.s - 2 := by bv_omega
  have hp : pulledByte (runBrk s) = statusByte s.cpu := by
    rw [pulledByte_of_ram (k := i) (by rwa [runBrk_cpu, e1]), read_runBrk_ram, if_pos hi]
  have hret : pulledWord (rtiPulled (runBrk s)) = s.cpu.pc + 1 := by
    rw [rtiReturn_of_ram (j := j) (k := k) (by rwa [runBrk_cpu, e2]) (by rwa [runBrk_cpu, e3]), read_runBrk_ram,
      read_runBrk_ram, if_neg (stackPage_sub_ne hk (by decide)), if_neg (stackPage_pred_ne hk), if_pos hk,
      if_neg (e21 ▸ stackPage_pred_ne hj), if_pos hj, wordOf_highByte_lowByte]
  rw [runRti_cpu, hp, hret, runBrk_cpu, e3, ← pByte_true, setP_pByte]

/-- Settles O32: each return reads back from RAM what its instruction pushed. -/
theorem stackRoundTrips : Obligations.StackRoundTrips := by
  intro a s t u
  simp only [exec_eq_run, Host.Outcome.next.injEq]
  refine ⟨?_, ?_, ?_, ?_⟩ <;> rintro h rfl rfl
  · exact runRti_runBrk_cpu h
  · exact runRts_runJsr_cpu a h
  · exact runPull_runPush_cpu .a h
  · exact (runPull_runPush_cpu .p h).trans (setP_pByte _ _ _)

end Sys2Proof.Proofs
end

section
/-! SUPPORT. Addition, subtraction and comparison in integers, and the decimal digits they have on BCD operands
(42_arithmetic.md R185 to R192; 93_implementation_defined.md U2, U3). -/

namespace Sys2Proof.Proofs

open Sys2Proof.Machine Sys2Proof.Laws

/-! ### Bytes as integers -/

theorem bit7_eq_decide (v : Byte) : bit7 v = decide (128 ≤ v.toNat) := BitVec.msb_eq_decide v

theorem bit7_ofNat (n : Nat) : bit7 (BitVec.ofNat 8 n) = decide (128 ≤ n % 256) := bit7_eq_decide _

theorem byte_ofNat_eq_zero_iff (n : Nat) : BitVec.ofNat 8 n = 0 ↔ n % 256 = 0 := by
  simp [← BitVec.toNat_inj]

theorem byte_toInt_eq (v : Byte) : v.toInt = (v.toNat : Int) - if bit7 v then 256 else 0 := by
  rw [BitVec.toInt_eq_msb_cond, bit7, ← BitVec.msb_eq_getLsbD_last]
  split <;> simp

theorem byte_toNat_not (m : Byte) : (~~~m).toNat = 255 - m.toNat := BitVec.toNat_not

theorem byte_toInt_not (m : Byte) : (~~~m).toInt = -1 - m.toInt := by
  have hm := m.isLt
  simp only [byte_toInt_eq, bit7_eq_decide, byte_toNat_not, decide_eq_true_iff]
  split_ifs <;> omega

/-- The sign test of R186: adding two bytes and a carry flips both signs exactly where the sum leaves -128..127. -/
theorem bit7_overflow (a m : Byte) (c : Bool) {r : Byte} (hr : r = BitVec.ofNat 8 (a.toNat + m.toNat + c.toNat)) :
    bit7 ((a ^^^ r) &&& (m ^^^ r)) =
      decide (a.toInt + m.toInt + (c.toNat : Int) < -128 ∨ 127 < a.toInt + m.toInt + (c.toNat : Int)) := by
  have bits : bit7 ((a ^^^ r) &&& (m ^^^ r)) = ((bit7 a ^^ bit7 r) && (bit7 m ^^ bit7 r)) := by simp [bit7]
  have hc := Bool.toNat_lt c
  have ha := a.isLt
  have hm := m.isLt
  rw [bits, hr, bit7_ofNat, byte_toInt_eq, byte_toInt_eq, bit7_eq_decide, bit7_eq_decide, Bool.eq_iff_iff]
  simp only [Bool.and_eq_true, bne_iff_ne, ne_eq, decide_eq_decide, decide_eq_true_iff]
  split_ifs <;> omega

/-! ### With D = 0 -/

/-- The sum and its four flags in integers (R186). -/
theorem adcBinary_eq (a m : Byte) (c : Bool) :
    adcBinary a m c =
      (let sum := a.toNat + m.toNat + c.toNat
       let signed := a.toInt + m.toInt + (c.toNat : Int)
       { a := BitVec.ofNat 8 sum, n := decide (128 ≤ sum % 256), z := decide (sum % 256 = 0), c := decide (255 < sum),
         v := decide (signed < -128 ∨ 127 < signed) }) := by
  simp only [adcBinary, bit7_ofNat, bit7_overflow a m c rfl, ← byte_ofNat_eq_zero_iff]
  rfl

/-- Subtraction is addition of the complement, overflow included (R188). -/
theorem sbcBinary_eq_adcBinary_not (a m : Byte) (c : Bool) : sbcBinary a m c = adcBinary a (~~~m) c := by
  have sign (r : Byte) : (a ^^^ r) &&& (a ^^^ m) = (a ^^^ r) &&& (~~~m ^^^ r) := by
    ext i hi
    simp only [BitVec.getElem_and, BitVec.getElem_xor, BitVec.getElem_not]
    cases a[i] <;> cases m[i] <;> cases r[i] <;> rfl
  have complement : m ^^^ 0xFF = ~~~m := BitVec.xor_allOnes
  simp only [sbcBinary, adcBinary, sign, complement]

/-- The difference and its four flags in integers (R188). -/
theorem sbcBinary_eq (a m : Byte) (c : Bool) :
    sbcBinary a m c =
      (let borrow : Int := if c then 0 else 1
       let diff : Int := (a.toNat : Int) - (m.toNat : Int) - borrow
       let signed := a.toInt - m.toInt - borrow
       { a := BitVec.ofInt 8 diff, n := decide (128 ≤ diff % 256), z := decide (diff % 256 = 0), c := decide (0 ≤ diff),
         v := decide (signed < -128 ∨ 127 < signed) }) := by
  have hm := m.isLt
  have hb : (if c then 0 else 1 : Int) = 1 - (c.toNat : Int) := by cases c <;> rfl
  rw [sbcBinary_eq_adcBinary_not, adcBinary_eq, byte_toInt_not, byte_toNat_not, hb]
  simp only [Alu.mk.injEq, decide_eq_decide]
  refine ⟨?_, ?_, ?_, ?_, ?_⟩
  · apply BitVec.eq_of_toNat_eq
    rw [BitVec.toNat_ofNat, BitVec.toNat_ofInt]
    omega
  all_goals omega

/-! ### With D = 1 -/

/-- The decimal sum and its four flags (R187). -/
theorem adcDecimal_eq (a m : Byte) (c : Bool) :
    adcDecimal a m c =
      (let lo := a.toNat % 16 + m.toNat % 16 + c.toNat
       let lo := if 9 < lo then (lo + 6) % 16 + 16 else lo
       let u := a.toNat / 16 * 16 + m.toNat / 16 * 16 + lo
       let r := if 0xA0 ≤ u then u + 0x60 else u
       { a := BitVec.ofNat 8 r, n := u.testBit 7, c := decide (0x100 ≤ r),
         v := ((a ^^^ BitVec.ofNat 8 u) &&& (m ^^^ BitVec.ofNat 8 u)).getLsbD 7,
         z := decide ((a.toNat + m.toNat + c.toNat) % 256 = 0) }) := by
  have sign (n : Nat) : bit7 (BitVec.ofNat 8 n) = n.testBit 7 := by rw [bit7, BitVec.getLsbD_ofNat]; rfl
  simp only [adcDecimal, sign, adcBinary_eq]
  rfl

/-- The decimal difference, with the flags of the binary one (R189). -/
theorem sbcDecimal_eq (a m : Byte) (c : Bool) :
    sbcDecimal a m c =
      (let borrow : Int := if c then 0 else 1
       let lo : Int := ((a.toNat % 16 : Nat) : Int) - ((m.toNat % 16 : Nat) : Int) - borrow
       let lo : Int := if lo < 0 then (lo - 6) % 16 - 16 else lo
       let u : Int := ((a.toNat / 16 * 16 : Nat) : Int) - ((m.toNat / 16 * 16 : Nat) : Int) + lo
       { sbcBinary a m c with a := BitVec.ofInt 8 (if u < 0 then u - 0x60 else u) }) := by
  have lo : (lowNibble a : Int) - lowNibble m + c.toNat - 1 = lowNibble a - lowNibble m - (if c then 0 else 1) := by
    cases c <;> simp
  rw [sbcDecimal, sbcDecimalResult, lo]
  rfl

theorem validBcd_iff (v : Byte) : validBcd v = true ↔ v.toNat % 16 ≤ 9 ∧ v.toNat / 16 ≤ 9 := by
  rw [validBcd, Bool.and_eq_true, decide_eq_true_iff, decide_eq_true_iff, lowNibble]

/-- On BCD operands the correction carries at ten in each digit, so that A and C are the decimal sum (R187). -/
theorem adcDecimal_of_validBcd {a m : Byte} (c : Bool) (ha : validBcd a = true) (hm : validBcd m = true) :
    validBcd (adcDecimal a m c).a = true ∧
      bcdValue a + bcdValue m + c.toNat = 100 * (adcDecimal a m c).c.toNat + bcdValue (adcDecimal a m c).a := by
  rw [validBcd_iff] at ha hm ⊢
  have hc := Bool.toNat_lt c
  have flag (p : Prop) [Decidable p] : (decide p).toNat = if p then 1 else 0 := apply_ite Bool.toNat p true false
  simp only [adcDecimal_eq, bcdValue, BitVec.toNat_ofNat, flag]
  split_ifs <;> omega

/-- On BCD operands a digit that falls below 0 borrows and gains ten, so that A is the decimal difference modulo 100; the
binary and the decimal difference have the same sign (R189). -/
theorem sbcDecimal_of_validBcd {a m : Byte} (c : Bool) (ha : validBcd a = true) (hm : validBcd m = true) :
    let diff : Int := (bcdValue a : Int) - (bcdValue m : Int) - (if c then 0 else 1)
    validBcd (sbcDecimal a m c).a = true ∧ (bcdValue (sbcDecimal a m c).a : Int) = diff % 100 ∧
      ((sbcDecimal a m c).c = true ↔ 0 ≤ diff) := by
  rw [validBcd_iff] at ha hm ⊢
  have low (x : Int) (h : -10 ≤ x) : (if x < 0 then (x - 6) % 16 - 16 else x) = if x < 0 then x - 6 else x := by
    split <;> omega
  have high (x : Int) (h : -160 ≤ x) (h' : x < 256) :
      (BitVec.ofInt 8 (if x < 0 then x - 0x60 else x)).toNat = if x < 0 then (x + 160).toNat else x.toNat := by
    rw [BitVec.toNat_ofInt]
    split <;> omega
  have modulus (x : Int) (h : -100 ≤ x) (h' : x < 100) : x % 100 = if x < 0 then x + 100 else x := by
    split <;> omega
  simp only [sbcDecimal_eq, sbcBinary_eq, bcdValue, decide_eq_true_iff]
  rw [low _ (by split <;> omega), high _ (by split_ifs <;> omega) (by split_ifs <;> omega),
    modulus _ (by split <;> omega) (by split <;> omega)]
  split_ifs <;> omega

/-! ### ADC and SBC -/

section
variable {binary decimal : Byte → Byte → Bool → Alu} {m : Byte} {s : State}

theorem addSubtract_cpu_of_binary (hd : s.cpu.d = false) :
    (addSubtract binary decimal m s).cpu = s.cpu.withAlu (binary s.cpu.a m s.cpu.c) := by
  simp [addSubtract, hd]

theorem addSubtract_cpu_of_nmos (hd : s.cpu.d = true) (hf : s.cfg.decimalFlags = .nmos) :
    (addSubtract binary decimal m s).cpu = s.cpu.withAlu (decimal s.cpu.a m s.cpu.c) := by
  simp [addSubtract, hd, hf]

theorem addSubtract_cpu_of_any (hd : s.cpu.d = true) (hf : s.cfg.decimalFlags = .any) :
    (addSubtract binary decimal m s).cpu = s.cpu.withAlu (looseDecimal s m (decimal s.cpu.a m s.cpu.c)) := by
  simp [addSubtract, hd, hf]

end

/-- Under open flags A and C are still the decimal step's on BCD operands (93_implementation_defined.md U3). -/
theorem looseDecimal_of_validBcd {s : State} {m : Byte} (r : Alu) (ha : validBcd s.cpu.a = true)
    (hm : validBcd m = true) : (looseDecimal s m r).a = r.a ∧ (looseDecimal s m r).c = r.c := by
  simp [looseDecimal, ha, hm]

/-- Settles O16: A and the four flags are those of the binary step, which is the sum or the difference in integers. -/
theorem binaryAddAndSubtract : Obligations.BinaryAddAndSubtract := fun _ _ s hd =>
  ⟨fun _ hp => exec_readForm_cpu hp fun m u hu _ => by
      rw [ReadOp.apply, addSubtract_cpu_of_binary (hu ▸ hd), hu, adcBinary_eq]; rfl,
    fun _ hp => exec_readForm_cpu hp fun m u hu _ => by
      rw [ReadOp.apply, addSubtract_cpu_of_binary (hu ▸ hd), hu, sbcBinary_eq]; rfl⟩

/-- Settles O17: A and the four flags are those of the decimal step, which on BCD operands is decimal. -/
theorem decimalAddAndSubtract : Obligations.DecimalAddAndSubtract := by
  intro b a s hd hf
  have nmos {binary decimal m} {u : State} (hu : u.cpu = s.cpu) (hcfg : u.cfg = s.cfg) :
      (addSubtract binary decimal m u).cpu = s.cpu.withAlu (decimal s.cpu.a m s.cpu.c) :=
    hu ▸ addSubtract_cpu_of_nmos (hu ▸ hd) (hcfg ▸ hf)
  refine ⟨fun p hp => ?_, fun p hp => ?_⟩
  · obtain ⟨t, m, he, hm, hcpu, hframe⟩ := exec_readForm_cpu hp fun _ _ => nmos
    refine ⟨t, m, he, hm, ?_, fun hA hM => ?_, hframe⟩ <;> rw [hcpu]
    · rw [adcDecimal_eq]; rfl
    · exact adcDecimal_of_validBcd _ hA hM
  · obtain ⟨t, m, he, hm, hcpu, hframe⟩ := exec_readForm_cpu hp fun _ _ => nmos
    refine ⟨t, m, he, hm, ⟨?_, fun hA hM => ?_⟩, hframe⟩ <;> rw [hcpu]
    · rw [sbcDecimal_eq, sbcBinary_eq]; rfl
    · exact sbcDecimal_of_validBcd _ hA hM

/-- Under open flags only A and the four flags are written, and on BCD operands A and C are the decimal step's
(93_implementation_defined.md U2, U3). -/
theorem exec_of_openFlags {op : ReadOp} {binary decimal : Byte → Byte → Bool → Alu} {b : Byte} {a : Word}
    {p : Instr × ReadOperand} {s : State} (hop : ∀ m u, op.apply m u = addSubtract binary decimal m u)
    (hp : p ∈ readForms op b a) (hd : s.cpu.d = true) (hf : s.cfg.decimalFlags = .any) :
    ∃ t m, exec p.1 s = .next t ∧ OperandIs p.2 s m ∧
      t.cpu = { s.cpu with a := t.cpu.a, n := t.cpu.n, v := t.cpu.v, z := t.cpu.z, c := t.cpu.c } ∧
      (validBcd s.cpu.a = true → validBcd m = true →
        t.cpu.a = (decimal s.cpu.a m s.cpu.c).a ∧ t.cpu.c = (decimal s.cpu.a m s.cpu.c).c) ∧
      t.cpuFault = s.cpuFault ∧ Frame (p.2.reads s) [] s t := by
  obtain ⟨t, m, he, hm, ⟨u, hu, hcfg, rfl⟩, hframe⟩ := exec_readForm hp s
  have hcpu : (op.apply m u).cpu = s.cpu.withAlu (looseDecimal u m (decimal s.cpu.a m s.cpu.c)) := by
    rw [hop, addSubtract_cpu_of_any (hu ▸ hd) (hcfg ▸ hf), hu]
  refine ⟨_, m, he, hm, ?_, fun hA hM => ?_, hframe⟩ <;> rw [hcpu]
  · rfl
  · exact looseDecimal_of_validBcd _ (hu ▸ hA) hM

/-- Settles O18: ADC and SBC write A and the four flags only, and their decimal steps are decimal on BCD operands. -/
theorem decimalWithOpenFlags : Obligations.DecimalWithOpenFlags := by
  intro b a s hd hf
  refine ⟨fun p hp => ?_, fun p hp => ?_⟩
  · obtain ⟨t, m, he, hm, hcpu, hbcd, hframe⟩ := exec_of_openFlags (fun _ _ => rfl) hp hd hf
    refine ⟨t, m, he, hm, hcpu, fun hA hM => ?_, hframe⟩
    obtain ⟨ha, hc⟩ := hbcd hA hM
    exact ha ▸ hc ▸ adcDecimal_of_validBcd _ hA hM
  · obtain ⟨t, m, he, hm, hcpu, hbcd, hframe⟩ := exec_of_openFlags (fun _ _ => rfl) hp hd hf
    refine ⟨t, m, he, hm, hcpu, fun hA hM => ?_, hframe⟩
    obtain ⟨ha, hc⟩ := hbcd hA hM
    exact ha ▸ hc ▸ sbcDecimal_of_validBcd _ hA hM

/-! ### Compares -/

/-- A compare in integers (R191). -/
theorem compare_eq (c : Cpu) (r m : Byte) :
    c.compare r m = { c with
      c := decide (m.toNat ≤ r.toNat), z := decide (r = m),
      n := decide (128 ≤ ((r.toNat : Int) - (m.toNat : Int)) % 256) } := by
  have sign : 128 ≤ (r - m).toNat ↔ 128 ≤ ((r.toNat : Int) - (m.toNat : Int)) % 256 := by
    have hm := m.isLt
    rw [BitVec.toNat_sub]
    omega
  simp only [Cpu.compare, bit7_eq_decide, sign]
  rfl

/-- Settles O19: each form is the compare of its register, whatever D is. -/
theorem compareResults : Obligations.CompareResults := by
  intro b a s q hq p hp
  refine exec_readForm_cpu hp fun m u hu _ => ?_
  rw [← compare_eq, ← hu]
  simp only [List.mem_cons, List.not_mem_nil, or_false] at hq
  rcases hq with rfl | rfl | rfl <;> simp [ReadOp.apply, hu]

end Sys2Proof.Proofs
end

section
/-! SUPPORT. The logical instructions and BIT (43_logic.md R200 to R204). -/

namespace Sys2Proof.Proofs

open Sys2Proof.Machine Sys2Proof.Laws

/-- An operation on A and the operand that works bit by bit leaves its result in A, with N and Z of it, and nothing else
in the registers (R200, R201). -/
theorem exec_bitwise {op : ReadOp} {f : Byte → Byte → Byte} {g : Bool → Bool → Bool} {b : Byte} {a : Word}
    {p : Instr × ReadOperand} {s : State}
    (effect : ∀ m u, (op.apply m u).cpu = { u.cpu with a := f u.cpu.a m }.setNZ (f u.cpu.a m))
    (bits : ∀ x m k, (f x m).getLsbD k = g (x.getLsbD k) (m.getLsbD k)) (hp : p ∈ readForms op b a) :
    ∃ t m, exec p.1 s = .next t ∧ OperandIs p.2 s m ∧
      (∀ k, k < 8 → t.cpu.a.getLsbD k = g (s.cpu.a.getLsbD k) (m.getLsbD k)) ∧
      t.cpu = { s.cpu with a := t.cpu.a, n := t.cpu.a.getLsbD 7, z := decide (t.cpu.a = 0) } ∧
      t.cpuFault = s.cpuFault ∧ Frame (p.2.reads s) [] s t := by
  obtain ⟨t, m, he, hm, hcpu, hrest⟩ :=
    exec_readForm_cpu (c := fun m => { s.cpu with a := f s.cpu.a m }.setNZ (f s.cpu.a m)) hp
      fun m u hu _ => hu ▸ effect m u
  have ha : t.cpu.a = f s.cpu.a m := congrArg Cpu.a hcpu
  refine ⟨t, m, he, hm, fun k _ => ?_, ?_, hrest⟩
  · rw [ha, bits]
  · rw [ha, hcpu, setNZ_eq]

/-- BIT leaves A: N and V are bits of the operand, and only Z is of the conjunction (R204). -/
theorem bit_cpu (m : Byte) (s : State) :
    (ReadOp.bit.apply m s).cpu =
      { s.cpu with n := m.getLsbD 7, v := m.getLsbD 6, z := decide (s.cpu.a &&& m = 0) } := rfl

/-- Settles O20: AND, ORA and EOR are bitwise operations on A, and BIT writes three flags only. -/
theorem logicResults : Obligations.LogicResults := by
  intro b a s
  refine ⟨fun q hq p hp => ?_, fun p hp => exec_readForm_cpu hp fun m u hu _ => by rw [bit_cpu, hu]⟩
  simp only [List.mem_cons, List.not_mem_nil, or_false] at hq
  rcases hq with rfl | rfl | rfl
  · exact exec_bitwise (fun _ _ => rfl) (fun _ _ _ => BitVec.getLsbD_and) hp
  · exact exec_bitwise (fun _ _ => rfl) (fun _ _ _ => BitVec.getLsbD_or) hp
  · exact exec_bitwise (fun _ _ => rfl) (fun _ _ _ => BitVec.getLsbD_xor) hp

end Sys2Proof.Proofs
end

section
/-! SUPPORT. Shifts, rotates, INC and DEC in integers, and what their memory and accumulator forms do
(44_shift_incdec.md R210 to R216; 70_reset_and_hazards.md R522, R527). -/

namespace Sys2Proof.Proofs

open Sys2Proof.Machine Sys2Proof.Laws

/-! ### The six operations in integers -/

theorem byte_getLsbD_zero (v : Byte) : v.getLsbD 0 = decide (v.toNat % 2 = 1) := by
  rw [BitVec.getLsbD, Nat.testBit_zero]

theorem toNat_append_eq_add {j k : Nat} (x : BitVec j) (y : BitVec k) : (x ++ y).toNat = 2 ^ k * x.toNat + y.toNat := by
  rw [BitVec.toNat_append, ← Nat.shiftLeft_add_eq_or_of_lt y.isLt, Nat.shiftLeft_eq, Nat.mul_comm]

theorem asl_eq (c : Bool) (v : Byte) :
    RmwOp.asl.value c v = BitVec.ofNat 8 (2 * v.toNat) ∧ RmwOp.asl.carry c v = decide (128 ≤ v.toNat) := by
  refine ⟨BitVec.eq_of_toNat_eq ?_, bit7_eq_decide v⟩
  simp [RmwOp.value, Nat.shiftLeft_eq, Nat.mul_comm]

theorem lsr_eq (c : Bool) (v : Byte) :
    RmwOp.lsr.value c v = BitVec.ofNat 8 (v.toNat / 2) ∧ RmwOp.lsr.carry c v = decide (v.toNat % 2 = 1) := by
  refine ⟨BitVec.eq_of_toNat_eq ?_, byte_getLsbD_zero v⟩
  have hv := v.isLt
  simp only [RmwOp.value, BitVec.toNat_ushiftRight, Nat.shiftRight_eq_div_pow, BitVec.toNat_ofNat]
  omega

/-- The carry comes in as bit 0 (R213). -/
theorem rol_eq (c : Bool) (v : Byte) :
    RmwOp.rol.value c v = BitVec.ofNat 8 (2 * v.toNat + c.toNat) ∧ RmwOp.rol.carry c v = decide (128 ≤ v.toNat) := by
  refine ⟨BitVec.eq_of_toNat_eq ((toNat_append_eq_add (v.extractLsb' 0 7) (bit1 c)).trans ?_), bit7_eq_decide v⟩
  have hc := c.toNat_lt
  simp only [bit1, BitVec.extractLsb'_toNat, Nat.shiftRight_zero, BitVec.toNat_ofBool, BitVec.toNat_ofNat]
  omega

/-- The carry comes in as bit 7 (R214). -/
theorem ror_eq (c : Bool) (v : Byte) :
    RmwOp.ror.value c v = BitVec.ofNat 8 (v.toNat / 2 + 128 * c.toNat) ∧
      RmwOp.ror.carry c v = decide (v.toNat % 2 = 1) := by
  refine ⟨BitVec.eq_of_toNat_eq ((toNat_append_eq_add (bit1 c) (v.extractLsb' 1 7)).trans ?_), byte_getLsbD_zero v⟩
  have hv := v.isLt
  have hc := c.toNat_lt
  simp only [bit1, BitVec.extractLsb'_toNat, Nat.shiftRight_eq_div_pow, BitVec.toNat_ofBool, BitVec.toNat_ofNat]
  omega

theorem inc_eq (c : Bool) (v : Byte) :
    RmwOp.inc.value c v = BitVec.ofNat 8 (v.toNat + 1) ∧ RmwOp.inc.carry c v = c :=
  ⟨rfl, rfl⟩

/-- Modulo 256, to subtract 1 is to add 255 (R216). -/
theorem dec_eq (c : Bool) (v : Byte) :
    RmwOp.dec.value c v = BitVec.ofNat 8 (v.toNat + 255) ∧ RmwOp.dec.carry c v = c := by
  refine ⟨BitVec.eq_of_toNat_eq ?_, rfl⟩
  simp [RmwOp.value, BitVec.toNat_sub, Nat.add_comm]

theorem rmwFlags_eq (c : Cpu) (op : RmwOp) (v : Byte) :
    c.rmwFlags op v =
      { c with c := op.carry c.c v, n := (op.value c.c v).getLsbD 7, z := decide (op.value c.c v = 0) } :=
  setNZ_eq _ _

/-! ### Memory forms -/

theorem shape_of_rmwForms {op : RmwOp} {b : Byte} {a : Word} {p : Instr × MemOperand} (hp : p ∈ rmwForms op b a) :
    p.1.shape = .rmw op p.2 := by
  have shapes : (rmwForms op b a).map (fun q => q.1.shape) = (rmwForms op b a).map fun q => .rmw op q.2 := by
    cases op <;> rfl
  exact List.map_inj_left.mp shapes p hp

/-- The old byte: the read at the effective address, after the mode's own reads (R210, R527). -/
def rmwRead (o : MemOperand) (s : State) : Byte × State := cycleRead (o.effectiveAddress s) (o.address s).2

theorem rmwRead_of_ram {o : MemOperand} {s : State} {k : Nat} (h : busTarget (o.effectiveAddress s) = .ram k) :
    (rmwRead o s).1 = Memory.read s.ram k := by
  rw [rmwRead, cycleRead_of_ram h, read_ram_of_cycles (address_cycles o s)]

/-- A read-modify-write is that read, the write of the same byte and the write of the new one, all at the effective
address, and then the flags (R527). -/
theorem runRmw_eq (op : RmwOp) (o : MemOperand) (s : State) :
    runRmw op o s =
      (cycleWrite (o.effectiveAddress s) (op.value s.cpu.c (rmwRead o s).1)
        (cycleWrite (o.effectiveAddress s) (rmwRead o s).1 (rmwRead o s).2)).withCpu
          (s.cpu.rmwFlags op (rmwRead o s).1) := by
  simp [runRmw, rmwRead, address_fst, State.mapCpu]

theorem read_runRmw_ram (op : RmwOp) {o : MemOperand} {s : State} {k : Nat}
    (h : busTarget (o.effectiveAddress s) = .ram k) :
    Memory.read (runRmw op o s).ram k = op.value s.cpu.c (rmwRead o s).1 := by
  rw [runRmw_eq]
  exact (read_cycleWrite_ram ..).trans (if_pos h)

/-- Settles O21: each form is the read-modify-write operation, whose new byte and carry are those of the integers. -/
theorem readModifyWriteResults : Obligations.ReadModifyWriteResults := by
  intro b a s q hq p hp
  have results : ∀ v, q.1.value s.cpu.c v = q.2.1 v ∧ q.1.carry s.cpu.c v = q.2.2 v := by
    simp only [List.mem_cons, List.not_mem_nil, or_false] at hq
    rcases hq with rfl | rfl | rfl | rfl | rfl | rfl
    exacts [asl_eq _, lsr_eq _, rol_eq _, ror_eq _, inc_eq _, dec_eq _]
  obtain ⟨hv, hk⟩ := results (rmwRead p.2 s).1
  have hc := run_cycles (.rmw q.1 p.2) s
  have e := runRmw_eq q.1 p.2 s
  have hcpu : (runRmw q.1 p.2 s).cpu = s.cpu.rmwFlags q.1 (rmwRead p.2 s).1 := congrArg State.cpu e
  refine ⟨runRmw q.1 p.2 s, (rmwRead p.2 s).1, by rw [exec_eq_run, shape_of_rmwForms hp]; rfl,
    ⟨rfl, ?_, fun k h => ⟨rmwRead_of_ram h, ?_⟩⟩, ?_, cpuFault_of_cycles hc, frame_of_cycles hc⟩
  · rw [hcpu, ← hv]
    exact e
  · rw [read_runRmw_ram q.1 h, hv]
  · rw [hcpu, rmwFlags_eq, hv, hk]

/-! ### Accumulator forms -/

theorem rmwAcc_eq (c : Cpu) (op : RmwOp) :
    c.rmwAcc op =
      { c with a := op.value c.c c.a, c := op.carry c.c c.a, n := bit7 (op.value c.c c.a),
               z := decide (op.value c.c c.a = 0) } := rfl

theorem runAcc_cpu (op : RmwOp) (s : State) : (runAcc op s).cpu = s.cpu.rmwAcc op := by
  simp [runAcc, State.mapCpu]

/-- Settles O22: the accumulator form is the same operation on A, and its one cycle reads PC. -/
theorem accumulatorShiftResults : Obligations.AccumulatorShiftResults := by
  intro s q hq
  obtain ⟨op, hshape, hv, hk⟩ : ∃ op, q.1.shape = .acc op ∧ op.value s.cpu.c s.cpu.a = BitVec.ofNat 8 q.2.1 ∧
      op.carry s.cpu.c s.cpu.a = q.2.2 := by
    simp only [List.mem_cons, List.not_mem_nil, or_false] at hq
    rcases hq with rfl | rfl | rfl | rfl
    exacts [⟨.asl, rfl, asl_eq _ _⟩, ⟨.lsr, rfl, lsr_eq _ _⟩, ⟨.rol, rfl, rol_eq _ _⟩, ⟨.ror, rfl, ror_eq _ _⟩]
  have hc := run_cycles (.acc op) s
  refine ⟨runAcc op s, by rw [exec_eq_run, hshape]; rfl, ?_, cpuFault_of_cycles hc, frame_of_cycles hc⟩
  simp only [runAcc_cpu, rmwAcc_eq, hv, hk, bit7_ofNat, byte_ofNat_eq_zero_iff]

end Sys2Proof.Proofs
end

section
/-! SUPPORT. The flag instructions and NOP as meanings and as steps, BRK with its vector, RTI (46_flag_system.md R251 to R260;
60_exceptions.md R406, R408, R430; 70_reset_and_hazards.md R522, R544, R545). -/

namespace Sys2Proof.Proofs

open Sys2Proof.Machine Sys2Proof.Laws

/-! ### Flag instructions and NOP -/

/-- A call of a CPU that is not stalled moves the beam by three color clocks (R431, R433). -/
theorem ready_hclock {s : State} (hw : s.tia.wsyncHalt = false) (hh : s.tia.hclock < 228) :
    s.ready.tia.hclock = (s.tia.hclock + 3) % 228 := by
  rw [ready_eq_tickDevices s hw, tickDevices_hclock s hh]

/-- Where no write asserts RDY, every cycle moves the beam by three color clocks (R430, R433). -/
theorem hclock_of_cycles {r w : List Word} {s t : State} (hc : Cycles r w s t) (h : s.tia.wsyncHalt = false)
    (hh : s.tia.hclock < 228) (hw : ∀ a ∈ w, isWsync a = false) :
    t.tia.hclock = (s.tia.hclock + 3 * (r.length + w.length)) % 228 := by
  induction hc with
  | refl => exact (Nat.mod_eq_of_lt hh).symm
  | @read r w s t a hc ih =>
    have e := ih h hh hw
    have hf := (freeAt_of_cycles hc ⟨h, rfl⟩ hw).1
    rw [cycleRead, endCall_tia, memRead_tia, ready_hclock hf (by omega), e, List.length_append, List.length_singleton]
    omega
  | @write r w s t a v hc ih =>
    have hw' := fun b hb => hw b (List.mem_append_left _ hb)
    have e := ih h hh hw'
    have hf := (freeAt_of_cycles hc ⟨h, rfl⟩ hw').1
    rw [cycleWrite, endCall_tia, memWrite_hclock, ready_hclock hf (by omega), e, List.length_append,
      List.length_singleton]
    omega
  | cpu f _ ih => exact ih h hh hw
  | draws k _ ih => exact ih h hh hw

/-- A step at the opcode of an implied instruction is two read cycles, at PC and at the address after it, and the effect on
the registers with PC moved on (R122, R522). -/
theorem step_implied {i : Instr} {op : ImpliedOp} {b : Byte} {s : State} (hi : i.shape = .implied op)
    (hb : encode i = [b]) (hs : s.stuck = false) (hp : s.pipe.tcyc = 0) (h : s.codeByte s.cpu.pc = some b) :
    ∃ t, step s = .next t ∧ t.cpu = op.apply { s.cpu with pc := s.cpu.pc + 1 } ∧
      Cycles [s.cpu.pc, s.cpu.pc + 1] [] (s.withPipe Latches.idle) t := by
  have hcode : s.codeAt s.cpu.pc (encode i) := hb ▸ ⟨h, trivial⟩
  have hj : ∀ a, i = .jsr a → s.jsrOperandStays (s.cpu.pc + 2) := fun a e => by rw [e] at hi; cases hi
  obtain ⟨t, hstep, ht, hcpu, -⟩ := stepRunsTheCodeAtPc s i hs hp hcode hj
  rw [hi] at ht hcpu
  have hpc : t.cpu.pc = s.cpu.pc + 1 := congrArg Cpu.pc hcpu
  have hf : Cycles [s.cpu.pc] [] (s.withPipe Latches.idle) t := ht ▸ fetchByte_cycles (s.withPipe Latches.idle)
  refine ⟨runImplied op t, by rw [hstep, exec_eq_run, hi]; rfl, by rw [runImplied_cpu, hcpu]; rfl, ?_⟩
  exact hpc ▸ hf.trans (run_cycles (.implied op) t)

/-- Settles O23: each of the eight is an implied instruction of one byte, so a step is two read cycles and its effect. -/
theorem flagInstructionsAndNop : Obligations.FlagInstructionsAndNop := by
  intro s q hq
  obtain ⟨op, hi, hb, hcpu⟩ : ∃ op, q.1.shape = .implied op ∧ encode q.1 = [q.2.1] ∧ op.apply = q.2.2 := by
    simp only [List.mem_cons, List.not_mem_nil, or_false] at hq
    rcases hq with rfl | rfl | rfl | rfl | rfl | rfl | rfl | rfl
    exacts [⟨.clc, rfl, rfl, rfl⟩, ⟨.sec, rfl, rfl, rfl⟩, ⟨.cli, rfl, rfl, rfl⟩, ⟨.sei, rfl, rfl, rfl⟩,
      ⟨.cld, rfl, rfl, rfl⟩, ⟨.sed, rfl, rfl, rfl⟩, ⟨.clv, rfl, rfl, rfl⟩, ⟨.nop, rfl, rfl, rfl⟩]
  refine ⟨hcpu ▸ exec_implied hi s, fun hs hp h => ?_⟩
  obtain ⟨t, hstep, ht, hc⟩ := step_implied hi hb hs hp h
  exact ⟨t, hstep, hcpu ▸ ht, by rw [cpuFault_of_cycles hc, withPipe_cpuFault], frame_of_cycles hc, fun hw =>
    ⟨(freeAt_of_cycles hc ⟨hw, rfl⟩ (by simp)).2, fun hh => hclock_of_cycles hc hw hh (by simp)⟩⟩

/-! ### BRK and RTI -/

/-- A read cycle at a byte of code gives it, and only time passes (R71). -/
theorem cycleRead_of_codeByte {s : State} {a : Word} {v : Byte} (h : s.codeByte a = some v) :
    (cycleRead a s).1 = v ∧ TimeOnly s (cycleRead a s).2 := by
  have k := ready_timeOnly s
  have hm : memRead a s.ready = (v, s.ready) :=
    memRead_of_codeByte (by rw [codeByte_congr k.cart (fun _ _ => by rw [k.ram]), h])
  rw [cycleRead, hm]
  exact ⟨rfl, k.trans (endCall_timeOnly _)⟩

theorem brkPushes_cycles (s : State) :
    Cycles [] [stackPage s.cpu.s, stackPage (s.cpu.s - 1), stackPage (s.cpu.s - 2)] (cycleDummy s.cpu.pc s)
      (brkPushes s) := by
  simpa [brkPushes, BitVec.sub_sub] using
    ((((Cycles.refl (cycleDummy s.cpu.pc s)).cpu Cpu.incPc).push (highByte (s.cpu.pc + 1))).push
      (lowByte (s.cpu.pc + 1))).push (s.cpu.pByte true)

/-- Where `fe` snoops at none of BRK's pushes, they leave a byte of code outside RAM (R71, R95, R258). -/
theorem brkPushes_codeByte {s : State} {a : Word}
    (hs : ∀ b ∈ [stackPage s.cpu.s, stackPage (s.cpu.s - 1), stackPage (s.cpu.s - 2)],
      (cycleDummy s.cpu.pc s).cart.variant.snoops b = false)
    (ha : ∀ k, busTarget a ≠ .ram k) : (brkPushes s).codeByte a = (cycleDummy s.cpu.pc s).codeByte a := by
  refine codeByte_congr (cart_of_cycles (brkPushes_cycles s) fun b hb => ⟨hs b hb, fun o => ?_⟩)
    fun k hk => absurd hk (ha k)
  simp only [List.nil_append, List.mem_cons, List.not_mem_nil, or_false] at hb
  rcases hb with rfl | rfl | rfl <;> exact stackPage_not_window _ o

theorem window_not_ram {a : Word} (h : a.getLsbD 12 = true) (k : Nat) : busTarget a ≠ .ram k := by
  rw [busTarget_cart h]
  exact nofun

/-- Settles O28: BRK is its pushes and its vector reads; what it pushes stands in three cells of RAM, and the pushes leave a
vector that stands as code. -/
theorem breakTakesTheTrap : Obligations.BreakTakesTheTrap := by
  intro s
  have hc := run_cycles .brk s
  refine ⟨runBrk s, _, _, exec_eq_run .brk s, runBrk_cpu s, cpuFault_of_cycles hc, fun k h => ?_, fun k h => ?_,
    fun k h => ?_, fun l h hs hl hh => ?_, frame_of_cycles hc⟩
  · rw [read_runBrk_ram, if_neg (stackPage_sub_ne h (by decide)), if_neg (stackPage_pred_ne h), if_pos h]
  · have h2 : busTarget (stackPage (s.cpu.s - 2)) ≠ .ram k := by simpa [BitVec.sub_sub] using stackPage_pred_ne h
    rw [read_runBrk_ram, if_neg h2, if_pos h]
  · rw [read_runBrk_ram, if_pos h]
  · rw [← brkPushes_codeByte hs (window_not_ram rfl)] at hl hh
    obtain ⟨el, ht⟩ := cycleRead_of_codeByte hl
    rw [← codeByte_congr ht.cart fun _ _ => by rw [ht.ram]] at hh
    exact ⟨el, (cycleRead_of_codeByte hh).1⟩

/-- Settles O29: RTI is three pulls, of the status byte and of an address, each read from RAM that its cycles leave. -/
theorem returnFromInterruptResults : Obligations.ReturnFromInterruptResults := by
  intro s
  have hc := run_cycles .rti s
  have e : (rtiPulled s).cpu.s = s.cpu.s + 1 := by rw [rtiPulled_cpu]; rfl
  refine ⟨runRti s, pulledByte s, (pull (rtiPulled s)).1, (pull (pull (rtiPulled s)).2).1, exec_eq_run .rti s,
    fun k h => pulledByte_of_ram h, fun k h => ?_, fun k h => ?_, runRti_cpu s, cpuFault_of_cycles hc, frame_of_cycles hc⟩
  · rw [pull_of_ram (k := k) (by simpa [e, BitVec.add_assoc] using h), rtiPulled_ram]
  · rw [pull_of_ram (k := k) (by simpa [e, BitVec.add_assoc] using h), pull_ram, rtiPulled_ram]

end Sys2Proof.Proofs
end

section
/-! SUPPORT. An instruction cycle by cycle: the schedule of R520 to R545 that `advance()` follows, run to the instruction's
last cycle, is the meaning that `exec` gives at once (60_exceptions.md R430, R435, R437). -/

namespace Sys2Proof.Proofs

open Sys2Proof.Machine Sys2Proof.Laws

/-! ### A cycle and its call

The pieces of a cycle in `Machine/Cycle.lean` are made in the machine `s.ready` in which the CPU gets its cycle; with the
end of the call around them they are the cycles that the meanings are made of. -/

section

variable (s : State)

@[simp] theorem ready_cpu : s.ready.cpu = s.cpu := (ready_timeOnly s).cpu

@[simp] theorem ready_pipe : s.ready.pipe = s.pipe := (ready_timeOnly s).pipe

@[simp] theorem memRead_ready_fst (a : Word) : (memRead a s.ready).1 = (cycleRead a s).1 := rfl

@[simp] theorem endCall_memRead (a : Word) : endCall (memRead a s.ready).2 = (cycleRead a s).2 := rfl

@[simp] theorem endCall_discard (a : Word) : endCall (Machine.discard a s.ready) = cycleDummy a s := rfl

@[simp] theorem endCall_memWrite (a : Word) (v : Byte) : endCall (memWrite a v s.ready) = cycleWrite a v s := rfl

@[simp] theorem endCall_mapCpu (f : Cpu → Cpu) : endCall (s.mapCpu f) = (endCall s).mapCpu f := rfl

@[simp] theorem endCall_mapPipe (f : Latches → Latches) : endCall (s.mapPipe f) = (endCall s).mapPipe f := rfl

@[simp] theorem endCall_continueInstr : endCall (continueInstr s) = continueInstr (endCall s) := rfl

@[simp] theorem endCall_finishInstr : endCall (finishInstr s) = finishInstr (endCall s) := rfl

@[simp] theorem operandRead_ready_fst : (operandRead s.ready).1 = (fetchByte s).1 := by
  rw [operandRead, fetchByte, ready_cpu]; rfl

@[simp] theorem endCall_operandRead : endCall (operandRead s.ready).2 = (fetchByte s).2 := by
  rw [operandRead, fetchByte, ready_cpu]; rfl

@[simp] theorem stackRead_ready_fst : (stackRead s.ready).1 = (cycleRead (stackPage s.cpu.s) s).1 := by
  rw [stackRead, ready_cpu]; rfl

@[simp] theorem endCall_stackRead : endCall (stackRead s.ready).2 = (cycleRead (stackPage s.cpu.s) s).2 := by
  rw [stackRead, ready_cpu]; rfl

@[simp] theorem endCall_pushAccess (v : Byte) : endCall (pushAccess v s.ready) = push v s := by
  rw [pushAccess, push, ready_cpu]; rfl

/-! The latches lie outside every access and every register update. -/

variable (p : Latches)

@[simp] theorem mapCpu_withPipe (f : Cpu → Cpu) : (s.withPipe p).mapCpu f = (s.mapCpu f).withPipe p := rfl

@[simp] theorem mapPipe_withPipe (f : Latches → Latches) : (s.withPipe p).mapPipe f = s.withPipe (f p) := rfl

@[simp] theorem continueInstr_withPipe : continueInstr (s.withPipe p) = s.withPipe { p with tcyc := p.tcyc + 1 } := rfl

@[simp] theorem finishInstr_withPipe : finishInstr (s.withPipe p) = s.withPipe Latches.idle := rfl

@[simp] theorem memRead_withPipe_fst (a : Word) : (memRead a (s.withPipe p)).1 = (memRead a s).1 := by
  rw [memRead_withPipe]

@[simp] theorem memRead_withPipe_snd (a : Word) : (memRead a (s.withPipe p)).2 = (memRead a s).2.withPipe p := by
  rw [memRead_withPipe]

@[simp] theorem memWrite_withPipe_eq (a : Word) (v : Byte) : memWrite a v (s.withPipe p) = (memWrite a v s).withPipe p :=
  memWrite_withPipe a v s p

@[simp] theorem discard_withPipe (a : Word) :
    Machine.discard a (s.withPipe p) = (Machine.discard a s).withPipe p := memRead_withPipe_snd s p a

@[simp] theorem operandRead_withPipe : operandRead (s.withPipe p) = ((operandRead s).1, (operandRead s).2.withPipe p) := by
  simp [operandRead]

@[simp] theorem stackRead_withPipe : stackRead (s.withPipe p) = ((stackRead s).1, (stackRead s).2.withPipe p) := by
  simp [stackRead, memRead_withPipe]

@[simp] theorem pushAccess_withPipe (v : Byte) : pushAccess v (s.withPipe p) = (pushAccess v s).withPipe p := by
  simp [pushAccess]

@[simp] theorem latchOperand_withPipe (f : Latches → Byte → Latches) : latchOperand f (s.withPipe p) =
    continueInstr ((operandRead s).2.withPipe (f p (operandRead s).1)) := by
  simp [latchOperand]

@[simp] theorem latchRead_withPipe (f : Latches → Byte → Latches) (a : Word) : latchRead f a (s.withPipe p) =
    continueInstr ((memRead a s).2.withPipe (f p (memRead a s).1)) := by
  simp [latchRead]

@[simp] theorem cycleDummy_withPipe (a : Word) : cycleDummy a (s.withPipe p) = (cycleDummy a s).withPipe p := by
  simp only [cycleDummy, cycleRead_withPipe]

@[simp] theorem push_withPipe (v : Byte) : push v (s.withPipe p) = (push v s).withPipe p := by
  simp only [push, cycleWrite_withPipe, mapCpu_withPipe, withPipe_cpu]

@[simp] theorem fetchByte_withPipe : fetchByte (s.withPipe p) = ((fetchByte s).1, (fetchByte s).2.withPipe p) := by
  simp only [fetchByte, cycleRead_withPipe, mapCpu_withPipe, withPipe_cpu]

end

/-- The effect of a read instruction looks at registers, parameters and draws alone, so it commutes with whatever leaves
these. -/
theorem readOp_commutes {g : State → State} (cpu : ∀ s, (g s).cpu = s.cpu) (cfg : ∀ s, (g s).cfg = s.cfg)
    (draws : ∀ s, (g s).draws = s.draws) (mapCpu : ∀ s f, g (s.mapCpu f) = (g s).mapCpu f)
    (withDraws : ∀ s k, g (s.withDraws k) = (g s).withDraws k) (op : ReadOp) (m : Byte) (s : State) :
    op.apply m (g s) = g (op.apply m s) := by
  have alu : ∀ binary decimal, addSubtract binary decimal m (g s) = g (addSubtract binary decimal m s) := by
    intro binary decimal
    have hl : ∀ r, looseDecimal (g s) m r = looseDecimal s m r := fun r => by
      simp only [looseDecimal, State.fresh, cpu, draws]
    simp only [addSubtract, cpu, cfg, draws, hl]
    cases s.cpu.d
    · simp only [Bool.false_eq_true, if_false, mapCpu]
    · cases s.cfg.decimalFlags <;> simp only [if_true, mapCpu, withDraws]
  cases op
  case adc | sbc => exact alu _ _
  all_goals simp only [ReadOp.apply, mapCpu]

@[simp] theorem endCall_readOp (op : ReadOp) (m : Byte) (s : State) : endCall (op.apply m s) = op.apply m (endCall s) :=
  (readOp_commutes endCall_cpu endCall_cfg endCall_draws endCall_mapCpu (fun _ _ => rfl) op m s).symm

@[simp] theorem readOp_withPipe (op : ReadOp) (m : Byte) (s : State) (p : Latches) :
    op.apply m (s.withPipe p) = (op.apply m s).withPipe p :=
  readOp_commutes (g := fun s => s.withPipe p) (fun _ => rfl) (fun _ => rfl) (fun _ => rfl) (fun _ _ => rfl)
    (fun _ _ => rfl) op m s

/-! ### The cycles of a class, one after another -/

/-- The CPU's next cycle with its call, in an instruction of class `k` in progress. -/
def classCycle (k : Shape) (s : State) : State := endCall (k.cycle (s.pipe.tcyc + 1) s.ready)

/-- At most `n` further cycles of an instruction of class `k`, up to its last (R520). -/
def runCycles (k : Shape) : Nat → State → State
  | 0, s => s
  | n + 1, s => if (classCycle k s).pipe.tcyc = 0 then classCycle k s else runCycles k n (classCycle k s)

theorem runCycles_of_continues {k : Shape} {s t : State} (h : classCycle k s = t) (ht : t.pipe.tcyc ≠ 0) (n : Nat) :
    runCycles k (n + 1) s = runCycles k n t := by
  rw [runCycles, h, if_neg ht]

theorem runCycles_of_finishes {k : Shape} {s t : State} (h : classCycle k s = t) (ht : t.pipe.tcyc = 0) (n : Nat) :
    runCycles k (n + 1) s = t := by
  rw [runCycles, h, if_pos ht]

/-- The opcode latch, the fault record, the parameters, the call counter and the beam stay (R32, R33, R433). -/
structure KeepsInstr (s t : State) : Prop where
  ir : t.pipe.ir = s.pipe.ir
  cpuFault : t.cpuFault = s.cpuFault
  cfg : t.cfg = s.cfg
  cycleCounter : t.cycleCounter = s.cycleCounter
  hclock : t.tia.hclock = s.tia.hclock

/-- A cycle keeps the instruction, or it was its last (R520). -/
def InProgress (s t : State) : Prop := KeepsInstr s t ∨ ∃ u, KeepsInstr s u ∧ t = finishInstr u

section

variable {s t : State}

theorem keepsInstr_of_access (h : AccessKeeps s t) (hc : t.tia.hclock = s.tia.hclock) : KeepsInstr s t :=
  ⟨by rw [h.pipe], h.cpuFault, h.cfg, h.cycleCounter, hc⟩

@[simp] theorem keepsInstr_memRead (a : Word) : KeepsInstr s (memRead a s).2 :=
  keepsInstr_of_access (memRead_keeps a s) (by rw [memRead_tia])

@[simp] theorem keepsInstr_memWrite (a : Word) (v : Byte) : KeepsInstr s (memWrite a v s) :=
  keepsInstr_of_access (memWrite_keeps a v s) (memWrite_hclock a v s)

@[simp] theorem keepsInstr_mapCpu (f : Cpu → Cpu) : KeepsInstr s (t.mapCpu f) ↔ KeepsInstr s t :=
  ⟨fun ⟨h1, h2, h3, h4, h5⟩ => ⟨h1, h2, h3, h4, h5⟩, fun ⟨h1, h2, h3, h4, h5⟩ => ⟨h1, h2, h3, h4, h5⟩⟩

@[simp] theorem keepsInstr_mapPipe {f : Latches → Latches} (hf : ∀ p, (f p).ir = p.ir) (h : KeepsInstr s t) :
    KeepsInstr s (t.mapPipe f) := ⟨(hf _).trans h.ir, h.cpuFault, h.cfg, h.cycleCounter, h.hclock⟩

/-- No time passes without an access. -/
theorem clock_of_cycles_nil {r w : List Word} (h : Cycles r w s t) (hr : r = []) (hw : w = []) :
    t.cycleCounter = s.cycleCounter ∧ t.tia = s.tia := by
  induction h with
  | refl s => exact ⟨rfl, rfl⟩
  | read a _ ih => simp at hr
  | write a v _ ih => simp at hw
  | cpu f _ ih => exact ih hr hw
  | draws k _ ih => exact ih hr hw

@[simp] theorem keepsInstr_readOp (op : ReadOp) (m : Byte) (h : KeepsInstr s t) : KeepsInstr s (op.apply m t) := by
  have hc := readOp_cycles op m t
  obtain ⟨hn, ht⟩ := clock_of_cycles_nil hc rfl rfl
  exact ⟨by rw [(frame_of_cycles hc).pipe, h.ir], (cpuFault_of_cycles hc).trans h.cpuFault, hc.cfg.trans h.cfg,
    hn.trans h.cycleCounter, by rw [ht, h.hclock]⟩

@[simp] theorem inProgress_continueInstr (h : KeepsInstr s t) : InProgress s (continueInstr t) :=
  .inl ⟨h.ir, h.cpuFault, h.cfg, h.cycleCounter, h.hclock⟩

@[simp] theorem inProgress_finishInstr (h : KeepsInstr s t) : InProgress s (finishInstr t) := .inr ⟨t, h, rfl⟩

end

section

variable (s : State)

@[simp] theorem keepsInstr_operandRead : KeepsInstr s (operandRead s).2 := by simp [operandRead]

@[simp] theorem keepsInstr_discard (a : Word) : KeepsInstr s (Machine.discard a s) := by
  simp [Machine.discard]

@[simp] theorem keepsInstr_stackRead : KeepsInstr s (stackRead s).2 := by simp [stackRead]

@[simp] theorem keepsInstr_pushAccess (v : Byte) : KeepsInstr s (pushAccess v s) := by simp [pushAccess]

@[simp] theorem inProgress_latchOperand {f : Latches → Byte → Latches} (hf : ∀ p v, (f p v).ir = p.ir) :
    InProgress s (latchOperand f s) := by simp [latchOperand, hf]

@[simp] theorem inProgress_latchRead {f : Latches → Byte → Latches} (hf : ∀ p v, (f p v).ir = p.ir) (a : Word) :
    InProgress s (latchRead f a s) := by simp [latchRead, hf]

@[simp] theorem inProgress_addressCycle (o : MemOperand) (n : Nat) : InProgress s (o.addressCycle n s) := by
  unfold MemOperand.addressCycle
  dsimp only
  split <;> simp [latchOperand, latchRead, latchHigh]

theorem inProgress_shapeCycle (k : Shape) (n : Nat) : InProgress s (k.cycle n s) := by
  cases k with
  | implied op => simp [Shape.cycle]
  | acc op => simp [Shape.cycle]
  | read op o =>
    cases o with
    | imm v => simp [Shape.cycle]
    | mem o => simp only [Shape.cycle, readCycleOf]; split <;> simp
  | store r o => simp only [Shape.cycle, storeCycleOf]; split <;> simp
  | rmw op o => simp only [Shape.cycle, rmwCycleOf]; split_ifs <;> simp
  | branch b d =>
    simp only [Shape.cycle, branchCycleOf]
    split
    · split <;> simp
    · split <;> simp
    · simp
  | jmpAbs a => simp only [Shape.cycle, jmpAbsCycle]; split <;> simp
  | jmpInd a => simp only [Shape.cycle, jmpIndCycle]; split <;> simp
  | jsr a => simp only [Shape.cycle, jsrCycle]; split <;> simp
  | rts => simp only [Shape.cycle, rtsCycle]; split <;> simp
  | push r => simp only [Shape.cycle, pushCycle]; split <;> simp
  | pull r => simp only [Shape.cycle, pullCycle]; split <;> simp
  | brk => simp only [Shape.cycle, brkCycle]; split <;> simp
  | rti => simp only [Shape.cycle, rtiCycle]; split <;> simp
  | undocumented opcode => simp [Shape.cycle]

end

/-- Between the device work of a call and its end no time passes (R430, R433). -/
theorem stepCycle_clock (s : State) :
    (stepCycle s).cycleCounter = s.cycleCounter ∧ (stepCycle s).tia.hclock = s.tia.hclock := by
  unfold stepCycle
  split_ifs
  · exact ⟨rfl, rfl⟩
  · have h := keepsInstr_operandRead s
    unfold fetchCycle
    dsimp only
    split
    · split <;> exact ⟨h.cycleCounter, h.hclock⟩
    · exact ⟨h.cycleCounter, h.hclock⟩
  · rcases inProgress_shapeCycle s (shapeOfOpcode s.pipe.ir) (s.pipe.tcyc + 1) with h | ⟨u, h, hu⟩
    · exact ⟨h.cycleCounter, h.hclock⟩
    · rw [hu]
      exact ⟨h.cycleCounter, h.hclock⟩

/-- Where a class cycle is not the last, the opcode latch stays, and a CPU that was not stuck is not. -/
theorem classCycle_of_not_last {k : Shape} {s : State} (h : (classCycle k s).pipe.tcyc ≠ 0) :
    (classCycle k s).pipe.ir = s.pipe.ir ∧ (classCycle k s).stuck = s.stuck := by
  have ht := ready_timeOnly s
  rcases inProgress_shapeCycle s.ready k (s.pipe.tcyc + 1) with hk | ⟨u, -, hu⟩
  · exact ⟨hk.ir.trans (by rw [ht.pipe]), by rw [State.stuck, State.stuck, classCycle, endCall_cpuFault, endCall_cfg,
      hk.cpuFault, hk.cfg, ht.cpuFault, ht.cfg]⟩
  · exact absurd (by rw [classCycle, hu]; rfl) h

/-- The single step runs an instruction in progress to its last cycle, one after as many stalled calls as there are before
it (R432, R437). -/
theorem singleStep_eq_runCycles {k : Shape} (n : Nat) : ∀ s : State, s.stuck = false → s.pipe.tcyc ≠ 0 →
    (shapeOfOpcode s.pipe.ir).cycle = k.cycle → (runCycles k n s).pipe.tcyc = 0 →
    ∀ m, n * (stallBound + 1) ≤ m → singleStep m s = runCycles k n s := by
  induction n with
  | zero => exact fun s _ hp _ h => absurd h hp
  | succ n ih =>
    intro s hs hp hk h m hm
    obtain ⟨j, -, hj, hstep⟩ := singleStep_ready s hs
    have hc : consume stallBound s = classCycle k s := by
      change endCall (stepCycle s.ready) = _
      rw [stepCycle, if_neg (by rw [stuck_of_timeOnly (ready_timeOnly s), hs]; decide), ready_pipe, if_neg hp, hk]
      rfl
    have hm' : n * (stallBound + 1) + (stallBound + 1) ≤ m := by rwa [← Nat.succ_mul]
    rw [hstep m (by omega), hc]
    by_cases ht : (classCycle k s).pipe.tcyc = 0
    · rw [if_pos (.inl ht), runCycles_of_finishes rfl ht]
    · obtain ⟨hir, hst⟩ := classCycle_of_not_last ht
      rw [hs] at hst
      rw [runCycles_of_continues rfl ht] at h ⊢
      rw [if_neg (by simp [ht, hst])]
      exact ih _ hst ht (by rw [hir, hk]) h _ (by omega)

/-! ### The addressing cycles -/

/-- The operand bytes of a memory mode, low byte first (R73, R120). -/
def modeBytes : MemOperand → List Byte
  | .zp b | .zpx b | .zpy b | .indx b | .indy b => [b]
  | .abs a | .absx a | .absy a => [lowByte a, highByte a]

/-- The cycles of a mode up to its base address: all of its addressing cycles but the read of the uncorrected address
(R524 to R537). -/
def baseCycles (o : MemOperand) : Nat := if o.corrects then o.addressCycles - 1 else o.addressCycles

/-- The latches after the opcode fetch (R520). -/
def opcodeLatched (ir : Byte) : Latches := { Latches.idle with tcyc := 1, ir := ir }

/-- The latches after cycle `n`, at least the last base cycle, of a mode whose meaning starts in `v`, with `d` in the data
latch (R32). Zero page,X and zero page,Y keep the operand byte, the other modes the base address. -/
def modeLatched (o : MemOperand) (ir : Byte) (v : State) (n : Nat) (d : Byte) : Latches where
  tcyc := n
  ir := ir
  lo := match o with
    | .zpx b | .zpy b => b
    | _ => lowByte (o.base v).1
  hi := highByte (o.base v).1
  ptr := match o with
    | .indx b | .indy b => b
    | _ => 0
  dat := d
  fix := o.pageCrossed v

section

variable (o : MemOperand) (ir : Byte) (v : State) {t : State} (n : Nat) (d : Byte)

@[simp] theorem modeLatched_tcyc : (modeLatched o ir v n d).tcyc = n := rfl

@[simp] theorem modeLatched_fix : (modeLatched o ir v n d).fix = o.pageCrossed v := rfl

@[simp] theorem modeLatched_dat : (modeLatched o ir v n d).dat = d := rfl

/-- The latches give the effective address of the meaning. -/
@[simp] theorem effective_modeLatched (ht : t.cpu = v.cpu) :
    o.effective (t.withPipe (modeLatched o ir v n d)) = o.effectiveAddress v := by
  have h0 : ∀ a, indexed a 0#8 = a := indexed_zero
  cases o <;>
    simp [MemOperand.effective, MemOperand.effectiveAddress, MemOperand.base, modeLatched, h0, ht, zeroPage]

/-- They give the uncorrected address too. -/
theorem uncorrected_modeLatched {o : MemOperand} (h : o.corrects = true) :
    uncorrected (wordOf (modeLatched o ir v n d).hi (modeLatched o ir v n d).lo) (o.index v.cpu) =
      uncorrected (o.base v).1 (o.base v).2.1 := by
  cases o <;> simp_all [MemOperand.corrects, MemOperand.base, modeLatched, MemOperand.index]

end

/-- The base cycles of a mode are its operand fetches and the reads of the meaning up to the base address. -/
theorem runCycles_base {o : MemOperand} {k : Shape} (hk : ∀ n s, n ≤ baseCycles o → k.cycle n s = o.addressCycle n s)
    (ir : Byte) {u : State} (h : modeBytes o = fetchedBytes o.operandBytes u) (n : Nat) :
    let v := fetchCyclesFrom o.operandBytes u
    runCycles k (n + (baseCycles o - 1)) (u.withPipe (opcodeLatched ir)) =
      runCycles k n ((o.base v).2.2.withPipe (modeLatched o ir v (baseCycles o) 0)) := by
  cases o with
  | zp b | zpx b | zpy b | indx b | indy b =>
    obtain rfl : b = (fetchByte u).1 := (List.cons.inj h).1
    simp [runCycles, classCycle, hk, baseCycles, MemOperand.addressCycles, MemOperand.addressCycle, MemOperand.corrects,
      MemOperand.base, MemOperand.index, fetchCyclesFrom, MemOperand.operandBytes, opcodeLatched, Latches.idle,
      modeLatched, latchHigh, MemOperand.pageCrossed, fetchByte_cpu, readPointer, zeroPage]
  | abs a | absx a | absy a =>
    obtain ⟨hl, hh⟩ : lowByte a = (fetchByte u).1 ∧ highByte a = (fetchByte (fetchByte u).2).1 := by
      simpa [modeBytes, MemOperand.operandBytes, fetchedBytes] using h
    simp [runCycles, classCycle, hk, baseCycles, MemOperand.addressCycles, MemOperand.addressCycle, MemOperand.corrects,
      MemOperand.base, MemOperand.index, fetchCyclesFrom, MemOperand.operandBytes, opcodeLatched, Latches.idle,
      modeLatched, latchHigh, MemOperand.pageCrossed, fetchByte_cpu, ← hl, ← hh]

theorem baseCycles_of_not_corrects {o : MemOperand} (h : o.corrects = false) : baseCycles o = o.addressCycles := by
  simp [baseCycles, h]

theorem baseCycles_of_corrects {o : MemOperand} (h : o.corrects = true) : baseCycles o + 1 = o.addressCycles := by
  cases o with
  | absx _ | absy _ | indy _ => rfl
  | _ => cases h

theorem two_le_baseCycles (o : MemOperand) : 2 ≤ baseCycles o := by cases o <;> exact Nat.le_of_ble_eq_true rfl

theorem baseCycles_lt_readCycle (o : MemOperand) (fix : Bool) : baseCycles o < o.readCycle fix := by
  cases o <;> cases fix <;> exact Nat.le_of_ble_eq_true rfl

theorem readCycle_of_not_pageCrossed {o : MemOperand} {v : State} (h : o.pageCrossed v = false) :
    o.readCycle (o.pageCrossed v) = baseCycles o + 1 := by
  rw [h]
  cases o <;> rfl

theorem addressCycle_of_corrects {o : MemOperand} (h : o.corrects = true) (s : State) :
    o.addressCycle o.addressCycles s =
      continueInstr (Machine.discard (uncorrected (wordOf s.pipe.hi s.pipe.lo) (o.index s.cpu)) s) := by
  cases o with
  | absx _ | absy _ | indy _ => rfl
  | _ => cases h

/-- The cycle that reads the uncorrected address (R531 to R537). -/
theorem classCycle_correction {o : MemOperand} {k : Shape}
    {v : State} (hc : o.corrects = true)
    (hk : ∀ s, s.pipe.fix = o.pageCrossed v → k.cycle o.addressCycles s = o.addressCycle o.addressCycles s) (ir : Byte) :
    classCycle k ((o.base v).2.2.withPipe (modeLatched o ir v (baseCycles o) 0)) =
      (o.address v).2.withPipe (modeLatched o ir v o.addressCycles 0) := by
  have hb := baseCycles_of_corrects hc
  have e := hk ((o.base v).2.2.withPipe (modeLatched o ir v (baseCycles o) 0)).ready (by rw [ready_pipe]; rfl)
  rw [classCycle, withPipe_pipe, modeLatched_tcyc, hb, e, addressCycle_of_corrects hc]
  simp [uncorrected_modeLatched _ _ _ _ hc, MemOperand.address, hc, hb]
  rfl

/-- All addressing cycles of a store or a read-modify-write instruction are those of the meaning (R525 to R537). -/
theorem runCycles_address {o : MemOperand} {k : Shape}
    (hk : ∀ n s, n ≤ o.addressCycles → k.cycle n s = o.addressCycle n s) (ir : Byte) {u : State}
    (h : modeBytes o = fetchedBytes o.operandBytes u) (n : Nat) :
    let v := fetchCyclesFrom o.operandBytes u
    runCycles k (n + (o.addressCycles - 1)) (u.withPipe (opcodeLatched ir)) =
      runCycles k n ((o.address v).2.withPipe (modeLatched o ir v o.addressCycles 0)) := by
  intro v
  cases hc : o.corrects
  · have hb := baseCycles_of_not_corrects hc
    have e := runCycles_base (fun m s hm => hk m s (hb ▸ hm)) ir h n
    rw [hb] at e
    rw [e]
    simp only [MemOperand.address, hc, Bool.false_eq_true, if_false, v]
  · have hb := baseCycles_of_corrects hc
    have h2 := two_le_baseCycles o
    rw [show n + (o.addressCycles - 1) = n + 1 + (baseCycles o - 1) by omega,
      runCycles_base (fun m s hm => hk m s (by omega)) ir h (n + 1)]
    exact runCycles_of_continues (classCycle_correction hc (fun s _ => hk _ s le_rfl) ir)
      (by rw [withPipe_pipe, modeLatched_tcyc]; omega) n

/-! ### Reads, stores and read-modify-writes -/

/-- A read instruction reads the effective address on its last cycle: where no correction is to be made, the uncorrected
address is the effective one (R531). -/
theorem readAddress_modeLatched (o : MemOperand) (ir : Byte) {v t : State} (ht : t.cpu = v.cpu) (n : Nat) (d : Byte) :
    o.readAddress (t.withPipe (modeLatched o ir v n d)) = o.effectiveAddress v := by
  unfold MemOperand.readAddress
  split
  · rename_i h
    obtain ⟨hc, hf⟩ : o.corrects = true ∧ o.pageCrossed v = false := by simpa using h
    have hx : crossesPage (o.base v).1 (o.base v).2.1 = false := by simpa [MemOperand.pageCrossed, hc] using hf
    rw [withPipe_cpu, ht, withPipe_pipe, uncorrected_modeLatched ir v n d hc, uncorrected_eq_indexed _ _ hx]
    rfl
  · exact effective_modeLatched o ir v n d ht

theorem classCycle_read {o : MemOperand} {v t : State} (op : ReadOp) (ir : Byte) (ht : t.cpu = v.cpu) {n : Nat}
    (hn : n + 1 = o.readCycle (o.pageCrossed v)) :
    classCycle (.read op (.mem o)) (t.withPipe (modeLatched o ir v n 0)) =
      (op.apply (cycleRead (o.effectiveAddress v) t).1 (cycleRead (o.effectiveAddress v) t).2).withPipe Latches.idle := by
  simp [classCycle, Shape.cycle, readCycleOf, hn, readAddress_modeLatched, ht]

section

variable {o : MemOperand} {v t : State} (op : RmwOp) (ir d : Byte) (ht : t.cpu = v.cpu)

include ht

theorem classCycle_rmw_read :
    classCycle (.rmw op o) (t.withPipe (modeLatched o ir v o.addressCycles d)) =
      (cycleRead (o.effectiveAddress v) t).2.withPipe
        (modeLatched o ir v (o.addressCycles + 1) (cycleRead (o.effectiveAddress v) t).1) := by
  simp [classCycle, Shape.cycle, rmwCycleOf, ht]
  rfl

theorem classCycle_rmw_writeBack :
    classCycle (.rmw op o) (t.withPipe (modeLatched o ir v (o.addressCycles + 1) d)) =
      (cycleWrite (o.effectiveAddress v) d t).withPipe (modeLatched o ir v (o.addressCycles + 2) d) := by
  simp [classCycle, Shape.cycle, rmwCycleOf, ht]
  rfl

theorem classCycle_rmw_write :
    classCycle (.rmw op o) (t.withPipe (modeLatched o ir v (o.addressCycles + 2) d)) =
      ((cycleWrite (o.effectiveAddress v) (op.value v.cpu.c d) t).mapCpu fun c => c.rmwFlags op d).withPipe
        Latches.idle := by
  simp [classCycle, Shape.cycle, rmwCycleOf, ht]

end

section

variable {o : MemOperand} {u : State} (ir : Byte) (h : modeBytes o = fetchedBytes o.operandBytes u)

include h

/-- A store: the write is its last cycle (R525). -/
theorem runCycles_store (r : StoreReg) (n : Nat) :
    runCycles (.store r o) (n + 1 + (o.addressCycles - 1)) (u.withPipe (opcodeLatched ir)) =
      (runStore r o (fetchCyclesFrom o.operandBytes u)).withPipe Latches.idle := by
  have hk : ∀ m s, m ≤ o.addressCycles → (Shape.store r o).cycle m s = o.addressCycle m s := fun m s hm => if_pos hm
  rw [runCycles_address hk ir h]
  refine runCycles_of_finishes ?_ rfl n
  simp [classCycle, Shape.cycle, storeCycleOf, runStore, address_fst]

/-- A read-modify-write: read, write back, write (R527). -/
theorem runCycles_rmw (op : RmwOp) (n : Nat) :
    runCycles (.rmw op o) (n + 3 + (o.addressCycles - 1)) (u.withPipe (opcodeLatched ir)) =
      (runRmw op o (fetchCyclesFrom o.operandBytes u)).withPipe Latches.idle := by
  have hk : ∀ m s, m ≤ o.addressCycles → (Shape.rmw op o).cycle m s = o.addressCycle m s := fun m s hm => if_pos hm
  have ha := address_cpu o (fetchCyclesFrom o.operandBytes u)
  rw [runCycles_address hk ir h, runCycles_of_continues (classCycle_rmw_read op ir 0 ha) (Nat.succ_ne_zero _),
    runCycles_of_continues (classCycle_rmw_writeBack op ir _ (by simp)) (Nat.succ_ne_zero _),
    runCycles_of_finishes (classCycle_rmw_write op ir _ (by simp)) rfl, runRmw, address_fst]

/-- A read instruction: the operand is read on its last cycle, the uncorrected address before it where the index carries
(R524, R531, R536). -/
theorem runCycles_read (op : ReadOp) (n : Nat) :
    let v := fetchCyclesFrom o.operandBytes u
    runCycles (.read op (.mem o)) (n + (o.readCycle (o.pageCrossed v) - 1)) (u.withPipe (opcodeLatched ir)) =
      (runRead op (.mem o) v).withPipe Latches.idle := by
  intro v
  have hk : ∀ m s, m ≤ baseCycles o → (Shape.read op (.mem o)).cycle m s = o.addressCycle m s := fun m s hm =>
    if_pos (lt_of_le_of_lt hm (baseCycles_lt_readCycle o _))
  have h2 := two_le_baseCycles o
  cases hx : o.pageCrossed v
  · have hr := readCycle_of_not_pageCrossed hx
    rw [hx] at hr
    rw [show n + (o.readCycle false - 1) = n + 1 + (baseCycles o - 1) by omega, runCycles_base hk ir h,
      runCycles_of_finishes (classCycle_read op ir (base_cpu o v) (by rw [hx, hr])) rfl, runRead, ReadOperand.read,
      read_of_not_pageCrossed hx]
  · have hc : o.corrects = true := by simp_all [MemOperand.pageCrossed]
    have hb := baseCycles_of_corrects hc
    have hr : o.readCycle true = o.addressCycles + 1 := by simp [MemOperand.readCycle]
    have hk' : ∀ s, s.pipe.fix = o.pageCrossed v →
        (Shape.read op (.mem o)).cycle o.addressCycles s = o.addressCycle o.addressCycles s := fun s hs =>
      if_pos (by rw [hs, hx, hr]; exact Nat.lt_succ_self _)
    rw [show n + (o.readCycle true - 1) = n + 2 + (baseCycles o - 1) by omega, runCycles_base hk ir h,
      runCycles_of_continues (classCycle_correction hc hk' ir) (by rw [withPipe_pipe, modeLatched_tcyc]; omega),
      runCycles_of_finishes (classCycle_read op ir (address_cpu o v) (by rw [hx, hr])) rfl, runRead, ReadOperand.read,
      read_of_pageCrossed hx]
    simp [MemOperand.address, hc]

end

end Sys2Proof.Proofs
end

section
/-! SUPPORT. The classes without a memory operand, the first cycle, and with them the single step from an instruction boundary
(60_exceptions.md R437; 70_reset_and_hazards.md R520 to R545). -/

namespace Sys2Proof.Proofs

open Sys2Proof.Machine Sys2Proof.Laws

/-! ### The classes without a memory operand -/

/-- The operand bytes of a class, low byte first (R120). -/
def shapeBytes : Shape → List Byte
  | .read _ (.imm v) | .branch _ v => [v]
  | .read _ (.mem o) | .store _ o | .rmw _ o => modeBytes o
  | .jmpAbs a | .jmpInd a | .jsr a => [lowByte a, highByte a]
  | _ => []

/-- The operand bytes that the cycles of a class find from `u`, the machine after the opcode fetch (R121, R541). -/
def bytesFrom (k : Shape) (u : State) : List Byte :=
  match k with
  | .jsr _ => [(fetchByte u).1, jsrHighByte (fetchByte u).2]
  | k => fetchedBytes (k.fetchCycles - 1) u

/-! Register updates gather outside the accesses. -/

@[simp] theorem mapCpu_mapCpu (s : State) (f g : Cpu → Cpu) : (s.mapCpu f).mapCpu g = s.mapCpu fun c => g (f c) := rfl

@[simp] theorem mapCpu_setPcLow (s : State) (l : Byte) :
    (s.mapCpu fun c => c.setPc (wordOf (highByte c.pc) l)) = s.mapCpu fun c => c.setPc (wordOf (highByte s.cpu.pc) l) := rfl

@[simp] theorem discard_cpu (a : Word) (s : State) : (Machine.discard a s).cpu = s.cpu := (memRead_keeps a s).cpu

@[simp] theorem pByte_decS (c : Cpu) (b : Bool) : c.decS.pByte b = c.pByte b := rfl

section

variable {u : State} (ir : Byte) (n : Nat)

theorem runCycles_implied (op : ImpliedOp) :
    runCycles (.implied op) (n + 1) (u.withPipe (opcodeLatched ir)) = (runImplied op u).withPipe Latches.idle := by
  refine runCycles_of_finishes ?_ rfl n
  simp [classCycle, Shape.cycle, runImplied]

theorem runCycles_acc (op : RmwOp) :
    runCycles (.acc op) (n + 1) (u.withPipe (opcodeLatched ir)) = (runAcc op u).withPipe Latches.idle := by
  refine runCycles_of_finishes ?_ rfl n
  simp [classCycle, Shape.cycle, runAcc]

theorem runCycles_undocumented (op : Byte) :
    runCycles (.undocumented op) (n + 1) (u.withPipe (opcodeLatched ir)) =
      (cycleDummy u.cpu.pc u).withPipe Latches.idle := by
  refine runCycles_of_finishes ?_ rfl n
  simp [classCycle, Shape.cycle]

theorem runCycles_imm (op : ReadOp) :
    runCycles (.read op (.imm (fetchByte u).1)) (n + 1) (u.withPipe (opcodeLatched ir)) =
      (runRead op (.imm (fetchByte u).1) (fetchByte u).2).withPipe Latches.idle := by
  refine runCycles_of_finishes ?_ rfl n
  simp [classCycle, Shape.cycle, runRead, ReadOperand.read]

theorem runCycles_push (r : PushReg) :
    runCycles (.push r) (n + 2) (u.withPipe (opcodeLatched ir)) = (runPush r u).withPipe Latches.idle := by
  simp [runCycles, classCycle, Shape.cycle, pushCycle, runPush, opcodeLatched, Latches.idle]

theorem runCycles_pull (r : PushReg) :
    runCycles (.pull r) (n + 3) (u.withPipe (opcodeLatched ir)) = (runPull r u).withPipe Latches.idle := by
  simp [runCycles, classCycle, Shape.cycle, pullCycle, runPull, opcodeLatched, Latches.idle, pull, cycleDummy]

theorem runCycles_jmpAbs {a : Word} (hl : lowByte a = (fetchByte u).1) (hh : highByte a = (fetchByte (fetchByte u).2).1) :
    runCycles (.jmpAbs a) (n + 2) (u.withPipe (opcodeLatched ir)) =
      (runJmpAbs a (fetchByte (fetchByte u).2).2).withPipe Latches.idle := by
  simp [runCycles, classCycle, Shape.cycle, jmpAbsCycle, runJmpAbs, opcodeLatched, Latches.idle]
  rw [← wordOf_highByte_lowByte a, hl, hh]
  rfl

theorem runCycles_jmpInd {a : Word} (hl : lowByte a = (fetchByte u).1) (hh : highByte a = (fetchByte (fetchByte u).2).1) :
    runCycles (.jmpInd a) (n + 4) (u.withPipe (opcodeLatched ir)) =
      (runJmpInd a (fetchByte (fetchByte u).2).2).withPipe Latches.idle := by
  simp [runCycles, classCycle, Shape.cycle, jmpIndCycle, runJmpInd, opcodeLatched, Latches.idle, ← hl, ← hh]

theorem runCycles_jsr {a : Word} (hl : lowByte a = (fetchByte u).1) (hh : highByte a = jsrHighByte (fetchByte u).2) :
    runCycles (.jsr a) (n + 5) (u.withPipe (opcodeLatched ir)) =
      (runJsr a (fetchByte u).2).withPipe Latches.idle := by
  simp [runCycles, classCycle, Shape.cycle, jsrCycle, runJsr, opcodeLatched, Latches.idle, ← hl, jsrPrelude, cycleDummy]
  rw [jsrHighByte, jsrPrelude, cycleDummy] at hh
  rw [← hh, wordOf_highByte_lowByte]

theorem runCycles_rts :
    runCycles .rts (n + 5) (u.withPipe (opcodeLatched ir)) = (runRts u).withPipe Latches.idle := by
  simp [runCycles, classCycle, Shape.cycle, rtsCycle, runRts, opcodeLatched, Latches.idle, pull, cycleDummy,
    cycleRead_mapCpu, Cpu.setPc, Cpu.incS, Cpu.incPc]

theorem runCycles_brk :
    runCycles .brk (n + 6) (u.withPipe (opcodeLatched ir)) = (runBrk u).withPipe Latches.idle := by
  simp [runCycles, classCycle, Shape.cycle, brkCycle, runBrk, opcodeLatched, Latches.idle, trapEntry, cycleDummy,
    cycleRead_mapCpu, Cpu.setPc, Cpu.incPc]

theorem runCycles_rti :
    runCycles .rti (n + 5) (u.withPipe (opcodeLatched ir)) = (runRti u).withPipe Latches.idle := by
  simp [runCycles, classCycle, Shape.cycle, rtiCycle, runRti, opcodeLatched, Latches.idle, trapReturn, pull, cycleDummy,
    cycleRead_mapCpu, Cpu.setPc, Cpu.incS, Cpu.setP]

theorem runCycles_branch (b : Cond) :
    runCycles (.branch b (fetchByte u).1) (n + 3) (u.withPipe (opcodeLatched ir)) =
      (runBranch b (fetchByte u).1 (fetchByte u).2).withPipe Latches.idle := by
  have hb : b.holds u.cpu.incPc = b.holds u.cpu := by cases b <;> rfl
  cases h : b.holds u.cpu
  · simp [runCycles, classCycle, Shape.cycle, branchCycleOf, runBranch, opcodeLatched, Latches.idle, h, fetchByte_cpu, hb]
  · by_cases hx : highByte (branchTarget (u.cpu.pc + 1#16) (fetchByte u).1) = highByte (u.cpu.pc + 1#16)
    · have ht := wordOf_highByte_lowByte (branchTarget (u.cpu.pc + 1#16) (fetchByte u).1)
      rw [hx] at ht
      simp [runCycles, classCycle, Shape.cycle, branchCycleOf, runBranch, opcodeLatched, Latches.idle, h,
        fetchByte_cpu, hb, hx, ht]
    · simp [runCycles, classCycle, Shape.cycle, branchCycleOf, runBranch, opcodeLatched, Latches.idle, h,
        fetchByte_cpu, hb, hx, cycleDummy_mapCpu, Cpu.setPc]

end

theorem addressCycles_le (o : MemOperand) : o.addressCycles ≤ 5 := by cases o <;> exact Nat.le_of_ble_eq_true rfl

theorem readCycle_le (o : MemOperand) (fix : Bool) : o.readCycle fix ≤ 6 := by
  cases o <;> cases fix <;> exact Nat.le_of_ble_eq_true rfl

/-- Every documented class runs to its meaning in at most six cycles after the opcode fetch (R520 to R547). -/
theorem runCycles_shape {k : Shape} {u : State} (ir : Byte) (h : shapeBytes k = bytesFrom k u)
    (hr : ∀ op o, k = .rmw op o → o.addressCycles ≤ 4) (hu : ∀ op, k ≠ .undocumented op) :
    runCycles k 6 (u.withPipe (opcodeLatched ir)) =
      (run k (fetchCyclesFrom (k.fetchCycles - 1) u)).withPipe Latches.idle := by
  cases k with
  | implied op => exact runCycles_implied ir 5 op
  | acc op => exact runCycles_acc ir 5 op
  | read op o =>
    cases o with
    | imm v =>
      obtain rfl : v = (fetchByte u).1 := (List.cons.inj h).1
      exact runCycles_imm ir 5 op
    | mem o =>
      have hl := readCycle_le o (o.pageCrossed (fetchCyclesFrom o.operandBytes u))
      obtain ⟨n, hn⟩ := Nat.exists_eq_add_of_le' (Nat.le_succ_of_le (Nat.pred_le_pred hl))
      rw [show 6 = _ from hn]
      exact runCycles_read ir h op n
  | store r o =>
    have hl := addressCycles_le o
    rw [show 6 = 5 - (o.addressCycles - 1) + 1 + (o.addressCycles - 1) by omega]
    exact runCycles_store ir h r _
  | rmw op o =>
    have hl := hr op o rfl
    rw [show 6 = 3 - (o.addressCycles - 1) + 3 + (o.addressCycles - 1) by omega]
    exact runCycles_rmw ir h op _
  | branch b d =>
    obtain rfl : d = (fetchByte u).1 := (List.cons.inj h).1
    exact runCycles_branch ir 3 b
  | jmpAbs a =>
    obtain ⟨hl, hh⟩ : lowByte a = (fetchByte u).1 ∧ highByte a = (fetchByte (fetchByte u).2).1 := by
      simpa [shapeBytes, bytesFrom, Shape.fetchCycles, fetchedBytes] using h
    exact runCycles_jmpAbs ir 4 hl hh
  | jmpInd a =>
    obtain ⟨hl, hh⟩ : lowByte a = (fetchByte u).1 ∧ highByte a = (fetchByte (fetchByte u).2).1 := by
      simpa [shapeBytes, bytesFrom, Shape.fetchCycles, fetchedBytes] using h
    exact runCycles_jmpInd ir 2 hl hh
  | jsr a =>
    obtain ⟨hl, hh⟩ : lowByte a = (fetchByte u).1 ∧ highByte a = jsrHighByte (fetchByte u).2 := by
      simpa [shapeBytes, bytesFrom] using h
    exact runCycles_jsr ir 1 hl hh
  | rts => exact runCycles_rts ir 1
  | push r => exact runCycles_push ir 4 r
  | pull r => exact runCycles_pull ir 3 r
  | brk => exact runCycles_brk ir 0
  | rti => exact runCycles_rti ir 1
  | undocumented op => exact absurd rfl (hu op)

/-! ### The instruction that the opcode latch selects -/

theorem tail_encode (i : Instr) : (encode i).tail = shapeBytes i.shape := by cases i <;> rfl

theorem bytesFrom_shape (i : Instr) (u : State) : bytesFrom i.shape u =
    if (encode i).headD 0 = jsrOpcode then [(fetchByte u).1, jsrHighByte (fetchByte u).2]
    else fetchedBytes ((encode i).length - 1) u := by
  cases i <;> rfl

/-- A memory mode without its operand bytes. -/
def blankOperand : MemOperand → MemOperand
  | .zp _ => .zp 0
  | .zpx _ => .zpx 0
  | .zpy _ => .zpy 0
  | .abs _ => .abs 0
  | .absx _ => .absx 0
  | .absy _ => .absy 0
  | .indx _ => .indx 0
  | .indy _ => .indy 0

/-- A class without its operand bytes, as an opcode byte alone selects it. -/
def blankShape : Shape → Shape
  | .read op (.imm _) => .read op (.imm 0)
  | .read op (.mem o) => .read op (.mem (blankOperand o))
  | .store r o => .store r (blankOperand o)
  | .rmw op o => .rmw op (blankOperand o)
  | .branch b _ => .branch b 0
  | .jmpAbs _ => .jmpAbs 0
  | .jmpInd _ => .jmpInd 0
  | .jsr _ => .jsr 0
  | k => k

theorem shapeOfOpcode_head (i : Instr) : shapeOfOpcode ((encode i).headD 0) = blankShape i.shape := by cases i <;> rfl

theorem addressCycle_blankOperand (o : MemOperand) (n : Nat) (s : State) :
    (blankOperand o).addressCycle n s = o.addressCycle n s := by
  cases o <;> obtain _ | _ | _ | _ | _ | n := n <;> rfl

/-- The cycles take their operand from the latches, not from the class (R520). -/
theorem cycle_blankShape (k : Shape) (n : Nat) (s : State) : (blankShape k).cycle n s = k.cycle n s := by
  have hc : ∀ o, (blankOperand o).addressCycles = o.addressCycles := fun o => by cases o <;> rfl
  have hr : ∀ o, (blankOperand o).readCycle = o.readCycle := fun o => by cases o <;> rfl
  have ha : ∀ o, (blankOperand o).readAddress = o.readAddress := fun o => by cases o <;> rfl
  have he : ∀ o, (blankOperand o).effective = o.effective := fun o => by cases o <;> rfl
  cases k with
  | read op o =>
    cases o with
    | imm v => rfl
    | mem o => simp only [blankShape, Shape.cycle, readCycleOf, addressCycle_blankOperand, hr, ha]
  | store r o => simp only [blankShape, Shape.cycle, storeCycleOf, addressCycle_blankOperand, hc, he]
  | rmw op o => simp only [blankShape, Shape.cycle, rmwCycleOf, addressCycle_blankOperand, hc, he]
  | _ => rfl

/-- So the opcode byte alone selects the cycles. -/
theorem cycle_shapeOfOpcode (i : Instr) : (shapeOfOpcode ((encode i).headD 0)).cycle = i.shape.cycle := by
  rw [shapeOfOpcode_head]
  funext n s
  exact cycle_blankShape _ n s

theorem rmw_addressCycles_le (i : Instr) : ∀ op o, i.shape = .rmw op o → o.addressCycles ≤ 4 := by
  intro op o h
  cases i <;> simp only [Instr.shape, reduceCtorEq, Shape.rmw.injEq] at h
  all_goals
    obtain ⟨-, rfl⟩ := h
    exact Nat.le_of_ble_eq_true rfl

theorem blankShape_eq_undocumented {k : Shape} {op : Byte} : blankShape k = .undocumented op ↔ k = .undocumented op := by
  cases k with
  | read op o => cases o <;> simp [blankShape]
  | _ => simp [blankShape]

/-- An undocumented opcode byte is the one its class holds (R150). -/
theorem shape_of_undocumented {i : Instr} {op : Byte} (h : shapeOfOpcode ((encode i).headD 0) = .undocumented op) :
    i.shape = .undocumented ((encode i).headD 0) := by
  rw [shapeOfOpcode_head, blankShape_eq_undocumented] at h
  exact shape_of_not_wellFormed (undocumented_of_shape h).1

theorem shapeOfOpcode_of_undocumented {i : Instr} {op : Byte} (h : i.shape = .undocumented op) :
    shapeOfOpcode ((encode i).headD 0) = .undocumented op := by
  rw [shapeOfOpcode_head, h]
  rfl

/-! ### From the boundary -/

section

variable {s : State}

/-- The operand bytes of the fetched instruction are those its cycles find (R121, R541). -/
theorem shapeBytes_fetch (s : State) :
    shapeBytes (fetch s).1.shape = bytesFrom (fetch s).1.shape (fetchByte (s.withPipe Latches.idle)).2 := by
  rw [← tail_encode, bytesFrom_shape, encode_fetch, fetchBytes_length, fetchBytes_headD, fetchBytes_eq]
  split <;> rfl

/-- The meaning of the fetched instruction starts after the opcode fetch and the fetch of its operand bytes (R520). -/
theorem fetch_snd_eq (s : State) : (fetch s).2 =
    fetchCyclesFrom ((fetch s).1.shape.fetchCycles - 1) (fetchByte (s.withPipe Latches.idle)).2 := by
  have h : (fetch s).1.shape.fetchCycles = (fetch s).1.shape.fetchCycles - 1 + 1 := by
    rw [fetchCycles_eq, encode_length]
    split <;> rfl
  rw [fetch_snd, h]
  rfl

/-- The latches are idle after a meaning that began with idle latches. -/
theorem run_pipe (k : Shape) (u : State) : (run k u).pipe = u.pipe := by
  rw [(frame_of_cycles (run_cycles k u)).pipe, (recordFault_frame k u).pipe]

theorem run_fetch_pipe (s : State) : (run (fetch s).1.shape (fetch s).2).pipe = Latches.idle := by
  obtain ⟨_, -, hc⟩ := fetchCyclesFrom_cycles (fetch s).1.shape.fetchCycles (s.withPipe Latches.idle)
  rw [run_pipe, fetch_snd, (frame_of_cycles hc).pipe, withPipe_pipe]

theorem withPipe_of_pipe {p : Latches} (h : s.pipe = p) : s.withPipe p = s := by rw [← h]; rfl

theorem consume_of_boundary (hs : s.stuck = false) (hp : s.pipe.tcyc = 0) :
    consume stallBound s = endCall (fetchCycle s.ready) := by
  change endCall (stepCycle s.ready) = _
  rw [stepCycle, if_neg (by rw [stuck_of_timeOnly (ready_timeOnly s), hs]; decide), ready_pipe, if_pos hp]

/-- The single step from the boundary, once its first cycle has latched the opcode of class `k`. -/
theorem singleStep_of_latched {k : Shape} {ir : Byte} {u t : State} (hs : s.stuck = false)
    (hc : consume stallBound s = u.withPipe (opcodeLatched ir)) (hu : u.stuck = false)
    (hk : (shapeOfOpcode ir).cycle = k.cycle)
    (ht : runCycles k 6 (u.withPipe (opcodeLatched ir)) = t) (hp : t.pipe.tcyc = 0) : singleStep callBound s = t := by
  obtain ⟨j, -, hj, hstep⟩ := singleStep_ready s hs
  rw [hstep callBound (by simp only [callBound]; omega), hc, if_neg (by
    rintro (h | h)
    · cases h
    · exact absurd (hu.symm.trans h) (by decide))]
  rw [← ht] at hp ⊢
  exact singleStep_eq_runCycles 6 (u.withPipe (opcodeLatched ir)) hu (Nat.succ_ne_zero 0) hk hp _
    (by simp only [callBound]; omega)

theorem endCall_fetchCycle_of_documented (h : ∀ op, shapeOfOpcode (fetchByte s).1 ≠ .undocumented op) :
    endCall (fetchCycle s.ready) = (fetchByte s).2.withPipe (opcodeLatched (fetchByte s).1) := by
  unfold fetchCycle
  simp only [operandRead_ready_fst]
  rw [endCall_withPipe, endCall_operandRead]
  rfl

theorem endCall_fetchCycle_of_fatal {op : Byte} (h : shapeOfOpcode (fetchByte s).1 = .undocumented op)
    (hp : s.cfg.unimplPolicy = .fatal) : endCall (fetchCycle s.ready) =
      (raiseUnimplemented s.cpu.pc (fetchByte s).1 (fetchByte s).2).withPipe Latches.idle := by
  have hp' : s.ready.cfg.unimplPolicy = .fatal := (ready_timeOnly s).cfg ▸ hp
  simp only [fetchCycle, operandRead_ready_fst, h, hp', endCall_finishInstr, raiseUnimplemented, ready_cpu,
    endCall_withCpuFault, endCall_operandRead]
  rfl

theorem endCall_fetchCycle_of_skip {op : Byte} (h : shapeOfOpcode (fetchByte s).1 = .undocumented op)
    (hp : s.cfg.unimplPolicy = .skip) : endCall (fetchCycle s.ready) =
      (raiseUnimplemented s.cpu.pc (fetchByte s).1 (fetchByte s).2).withPipe (opcodeLatched (fetchByte s).1) := by
  have hp' : s.ready.cfg.unimplPolicy = .skip := (ready_timeOnly s).cfg ▸ hp
  simp only [fetchCycle, operandRead_ready_fst, h, hp', endCall_withPipe, raiseUnimplemented, ready_cpu,
    endCall_withCpuFault, endCall_operandRead]
  rfl

theorem fetchByte_stuck (hs : s.stuck = false) : (fetchByte s).2.stuck = false := by
  have k := cycleRead_keeps s.cpu.pc s
  rw [← hs]
  simp only [State.stuck, fetchByte, mapCpu_cpuFault, mapCpu_cfg, k.cpuFault, k.cfg]

/-- A documented instruction, cycle by cycle. -/
theorem singleStep_of_documented (hs : s.stuck = false) (hp : s.pipe.tcyc = 0)
    (hd : ∀ op, (fetch s).1.shape ≠ .undocumented op) :
    singleStep callBound s = run (fetch s).1.shape (fetch s).2 := by
  have hop : (encode (fetch s).1).headD 0 = (fetchByte s).1 := by
    rw [encode_fetch, fetchBytes_headD, fetchByte_withPipe]
  have hr := runCycles_shape (fetchByte s).1 (shapeBytes_fetch s) (rmw_addressCycles_le _) hd
  rw [← fetch_snd_eq, withPipe_of_pipe (run_fetch_pipe s), fetchByte_withPipe] at hr
  refine singleStep_of_latched hs ((consume_of_boundary hs hp).trans (endCall_fetchCycle_of_documented fun op h => ?_))
    (fetchByte_stuck hs) (hop ▸ cycle_shapeOfOpcode _) hr (by rw [run_fetch_pipe]; rfl)
  exact hd _ (shape_of_undocumented (hop.symm ▸ h))

/-- An undocumented one: under `fatal` its first cycle ends it, under `skip` a second one reads at PC (R153, R401). -/
theorem singleStep_of_undocumented (hs : s.stuck = false) (ht : s.pipe.tcyc = 0) {op : Byte}
    (hd : (fetch s).1.shape = .undocumented op) :
    singleStep callBound s = run (fetch s).1.shape (fetch s).2 := by
  have hop : (encode (fetch s).1).headD 0 = (fetchByte s).1 := by
    rw [encode_fetch, fetchBytes_headD, fetchByte_withPipe]
  have ho := shapeOfOpcode_of_undocumented hd
  obtain rfl : op = (fetchByte s).1 := by
    have := shape_of_undocumented ho
    rw [hd, hop] at this
    exact Shape.undocumented.inj this
  have hf : (fetch s).2 = (fetchByte s).2.withPipe Latches.idle := by
    rw [fetch_snd_eq, hd, fetchByte_withPipe]
    rfl
  have hpc : ((fetchByte s).2.withPipe Latches.idle).cpu.pc - 1 = s.cpu.pc := by
    rw [withPipe_cpu, fetchByte_cpu]
    exact BitVec.add_sub_cancel _ _
  have hcfg : (fetchByte s).2.cfg = s.cfg := (cycleRead_keeps s.cpu.pc s).cfg
  have hpol : ∀ p, s.cfg.unimplPolicy = p → ((fetchByte s).2.withPipe Latches.idle).cfg.unimplPolicy = p :=
    fun p h => (congrArg _ hcfg).trans h
  rw [hop] at ho
  rw [hd, hf]
  cases hp : s.cfg.unimplPolicy with
  | fatal =>
    have hc := (consume_of_boundary hs ht).trans (endCall_fetchCycle_of_fatal ho hp)
    obtain ⟨j, -, hj, hstep⟩ := singleStep_ready s hs
    rw [hstep callBound (by simp only [callBound]; omega), hc, if_pos (.inl rfl)]
    exact ((undocumented_of_fatal (hpol _ hp) _).trans (by rw [hpc]; rfl)).symm
  | skip =>
    have hc := (consume_of_boundary hs ht).trans (endCall_fetchCycle_of_skip ho hp)
    have hu : (raiseUnimplemented s.cpu.pc (fetchByte s).1 (fetchByte s).2).stuck = false := by
      simp only [State.stuck, raiseUnimplemented, withCpuFault_cfg, hcfg, hp]
      rfl
    have hrun := undocumented_of_skip (hpol _ hp) (fetchByte s).1
    rw [hpc] at hrun
    refine singleStep_of_latched hs hc hu (congrArg _ ho) ((runCycles_undocumented _ 5 _).trans ?_) ?_
    · exact (cycleDummy_withPipe _ _ _).symm.trans hrun.symm
    · rw [run_pipe]
      rfl

end

/-- Settles O7: at the boundary the cycles of the single step, each after its stalled calls, add up to the meaning of the
fetched instruction. -/
theorem stepIsTheSingleStep : Obligations.StepIsTheSingleStep := by
  intro s
  cases hs : s.stuck
  · by_cases hp : s.pipe.tcyc = 0
    · rw [step_of_boundary hs hp]
      by_cases hd : ∃ op, (fetch s).1.shape = .undocumented op
      · obtain ⟨op, hd⟩ := hd
        rw [singleStep_of_undocumented hs hp hd]
      · rw [singleStep_of_documented hs hp (not_exists.1 hd)]
    · exact step_in_progress hs hp
  · have ha : (advance s).stuck = true := by
      rw [advance_of_stuck hs, stuck_of_timeOnly (endCall_timeOnly _), stuck_of_timeOnly (tickDevices_timeOnly _), hs]
    rw [step, if_pos hs, show callBound = 531 + 1 from rfl, singleStep, if_pos (by simp [stepEnds, ha])]

end Sys2Proof.Proofs
end

section
/-! SUPPORT. What a write to a TIA register does: the registers of R39, the delayed registers of R460, the strobes of R462 to
R465. -/

namespace Sys2Proof.Proofs

open Sys2Proof.Machine Sys2Proof.Laws

/-- Settles O46: in a write to the TIA the register is a number below 64, and the model's write has a case for each. -/
theorem registerWrites : Obligations.RegisterWrites := by
  intro a v s ha
  rw [memWrite_tia_of_target v s ha]
  refine ⟨?_, ?_⟩
  · simp only [List.forall_mem_cons, List.not_mem_nil, false_imp_iff, implies_true, and_true]
    and_intros <;> exact fun h => by rw [h]; rfl
  · intro h
    have hr : a.toNat % 64 < 64 := Nat.mod_lt _ (by decide)
    generalize a.toNat % 64 = r at h hr
    have hr' : r = 0x03 ∨ 0x2D ≤ r ∧ r < 64 := by omega
    rcases hr' with rfl | ⟨h1, h2⟩
    · rfl
    · interval_cases r <;> rfl

/-- The motion of a motion register: its upper four bits as a signed number (R465). -/
theorem motionOf_eq (hm : Byte) :
    motionOf hm = if hm.toNat / 16 < 8 then (hm.toNat / 16 : Int) else (hm.toNat / 16 : Int) - 16 := by
  have hb : (hm.extractLsb' 4 4).toNat = hm.toNat / 16 := by
    have := hm.isLt
    simp only [BitVec.extractLsb'_toNat, Nat.shiftRight_eq_div_pow]
    omega
  rw [motionOf, BitVec.toInt_eq_toNat_cond, hb]
  split_ifs <;> omega

theorem moved_eq (pos : Nat) (hm : Byte) : (moved pos hm : Int) = ((pos : Int) - motionOf hm) % 160 :=
  Int.toNat_of_nonneg (Int.emod_nonneg _ (by decide))

/-- Settles O47: each strobe is one case of the model's write; HMOVE moves by the signed motion. -/
theorem strobesAndMotion : Obligations.StrobesAndMotion := by
  intro a v s ha x0 latch motion u
  have hu : u = s.tia.write s.cfg (a.toNat % 64) v := memWrite_tia_of_target v s ha
  refine ⟨?_, ?_, ?_, ?_, ?_, ?_, fun h => ?_, ?_, fun h => ?_⟩
  case refine_7 =>
    have hm : u = s.tia.hmove := by rw [hu, h]; rfl
    have move : ∀ (pos : Nat) (hm : Byte), (moved pos hm : Int) = ((pos : Int) - motion hm) % 160 := fun pos hm => by
      rw [moved_eq, motionOf_eq]
    rw [hm]
    exact ⟨rfl, move _ _, move _ _, move _ _, move _ _, move _ _⟩
  case refine_9 =>
    rw [hu, h]
    exact ⟨rfl, rfl⟩
  all_goals exact fun h => by rw [hu, h]; rfl

end Sys2Proof.Proofs
end

section
/-! SUPPORT. One TIA tick, part by part: the line wrap, collisions, the missile lock and the pixel record (60_exceptions.md
R459, R467, R470 to R476). -/

namespace Sys2Proof.Proofs

open Sys2Proof.Machine Sys2Proof.Laws

/-- The tick that ends a line (R467). -/
theorem tick_wraps {t : Tia} (h : t.hclock = 227) (div : Nat) :
    t.tick div = { (t.beforeRender.collide.audioStep div) with
      hclock := 0
      wsyncHalt := false
      vsyncOn := t.regs.vsync.getLsbD 1
      vblankOn := t.regs.vblank.getLsbD 1
      scanline := if t.vsyncOn && !t.regs.vsync.getLsbD 1 then 0 else t.scanline + 1
      frame := if t.vsyncOn && !t.regs.vsync.getLsbD 1 then t.frame + 1 else t.frame } := by
  have hw : (t.beforeRender.collide.audioStep div).wraps = true := by
    rw [Tia.wraps, show (t.beforeRender.collide.audioStep div).hclock = t.hclock from rfl, h]
    rfl
  rw [Tia.tick, Tia.advanceClock]
  simp only [hw, if_true]
  rfl

/-- Settles O44: a new frame begins where the latch was set and the register bit is clear. -/
theorem lineWrap : Obligations.LineWrap := by
  intro div t h
  rw [tick_wraps h]
  refine ⟨rfl, rfl, rfl, rfl, ?_⟩
  cases h1 : t.vsyncOn <;> cases h2 : t.regs.vsync.getLsbD 1 <;> simp

/-- Settles O48: only the collision part of a tick touches the latches; it adds the pairs of the pixel, or nothing. -/
theorem collisionDetection : Obligations.CollisionDetection := by
  intro div t o on u
  have hu : u = if on then t.cx.latch o else t.cx := rfl
  rw [hu]
  cases on
  · simp
  · and_intros <;> rfl

theorem lockOffset_eq (nusiz : Byte) :
    lockOffset nusiz = if nusiz.toNat % 8 = 5 then 6 else if nusiz.toNat % 8 = 7 then 10 else 3 := by
  unfold lockOffset nusizNumber
  split
  · rename_i h
    rw [if_pos h]
  · rename_i h
    rw [h]
    rfl
  · rename_i h5 h7
    rw [if_neg h5, if_neg h7]

/-- Settles O53: the lock of the tick's second part, and the enable bit of a locked missile. -/
theorem missileLock : Obligations.MissileLock := by
  intro div t centre
  have hc : ∀ nusiz, centre nusiz = lockOffset nusiz := fun nusiz => (lockOffset_eq nusiz).symm
  rw [hc, hc]
  refine ⟨rfl, rfl, rfl, rfl, rfl, fun x => ⟨fun h => ?_, fun h => ?_⟩⟩ <;>
    simp [Tia.objectsAt, missileBit, h]

/-- Settles O52: the record of a tick and the branches of the colour by priority. -/
theorem pixelColour : Obligations.PixelColour := by
  refine ⟨fun s => ⟨rfl, rfl⟩, fun t => ⟨fun h => ?_, fun h => ?_⟩⟩
  · have hv : t.visible = false := by simpa [Tia.visible] using h
    rw [Tia.pixelOut, hv]
    rfl
  · have hv : t.visible = true := by simpa [Tia.visible] using h
    intro x o
    refine ⟨colourOf t x o, by rw [Tia.pixelOut, hv]; rfl, ?_, ?_, ?_⟩
    · intro hb
      simp [colourOf, hb]
    · intro hb hp
      simp only [colourOf, hb, hp, Bool.false_eq_true, if_false]
      refine ⟨fun h0 => if_pos h0, fun h0 h1 => ?_, fun h0 h1 h2 => ?_, fun h0 h1 h2 h3 => ?_, fun h0 h1 h2 h3 => ?_⟩ <;>
        rw [h0, h1]
      · rfl
      · rw [h2]; rfl
      · rw [h2, h3]; rfl
      · rw [h2, h3]; rfl
    · intro hb hp
      simp only [colourOf, hb, hp, Bool.false_eq_true, if_false, if_true]
      refine ⟨fun h0 => if_pos h0, fun h0 h1 => ?_, fun h0 h1 h2 => ?_, fun h0 h1 h2 => ?_⟩ <;> rw [h0, h1]
      · rfl
      · rw [h2]; rfl
      · rw [h2]; rfl

end Sys2Proof.Proofs
end

section
/-! SUPPORT. Calls: what one of them counts, how long a stall lasts and where a run of them stops (60_exceptions.md R430 to
R434). -/

namespace Sys2Proof.Proofs

open Sys2Proof.Machine Sys2Proof.Laws

/-! ### One call -/

theorem advance_clock (s : State) : (advance s).cycleCounter = s.cycleCounter + 1 ∧
    (advance s).tia.hclock = (tickDevices s).tia.hclock := by
  obtain ⟨hn, hc⟩ := stepCycle_clock (tickDevices s)
  cases h : (tickDevices s).stalled
  · rw [advance_of_released h, endCall_cycleCounter, endCall_tia, hn, hc, tickDevices_cycleCounter]
    exact ⟨rfl, rfl⟩
  · rw [advance_of_stalled h, endCall_cycleCounter, endCall_tia, tickDevices_cycleCounter]
    exact ⟨rfl, rfl⟩

/-- In a stalled call only time passes (R433). -/
theorem timeOnly_of_stalled {s : State} (h : (tickDevices s).stalled = true) : TimeOnly s (advance s) := by
  rw [advance_of_stalled h]
  exact (tickDevices_timeOnly s).trans (endCall_timeOnly _)

/-- Settles O34: the call counter and the beam, and the frame of a stalled call. -/
theorem oneCallIsThreeTicks : Obligations.OneCallIsThreeTicks := by
  intro s
  obtain ⟨hn, hc⟩ := advance_clock s
  refine ⟨hn, fun h => hc.trans (tickDevices_hclock s h), fun hs => ?_⟩
  have ht := timeOnly_of_stalled hs
  exact ⟨ht.cpu, ht.pipe, ht.cpuFault, ht.ram, ht.cart⟩

/-! ### A stall -/

/-- Short of the line's end a call stays stalled (R432, R467). -/
theorem stalled_of_lt {s : State} (hw : s.tia.wsyncHalt = true) (hc : s.tia.hclock + 3 < 228) :
    (tickDevices s).stalled = true := by
  have h0 : (s.tia.sampleInputs s.input).hclock = s.tia.hclock := rfl
  have hw0 : (s.tia.sampleInputs s.input).wsyncHalt = s.tia.wsyncHalt := rfl
  rw [State.stalled, tickDevices_tia]
  have h1 : ¬ 228 ≤ s.tia.hclock + 1 := by omega
  have h2 : ¬ 228 ≤ s.tia.hclock + 1 + 1 := by omega
  have h3 : ¬ 228 ≤ s.tia.hclock + 1 + 1 + 1 := by omega
  simp only [tia_tick_wsyncHalt, tia_tick_hclock, h0, hw0, hw, if_neg h1, if_neg h2, if_neg h3]

/-- A stall of `m` calls that does not reach the line's end: each call moves the beam by 3 and is counted, and the CPU
waits. -/
theorem stall_iterate {s : State} (hw : s.tia.wsyncHalt = true) (m : Nat) (hm : s.tia.hclock + 3 * m < 228) :
    TimeOnly s (advance^[m] s) ∧ (advance^[m] s).tia.wsyncHalt = true ∧
      (advance^[m] s).tia.hclock = s.tia.hclock + 3 * m ∧ (advance^[m] s).cycleCounter = s.cycleCounter + m := by
  induction m with
  | zero => exact ⟨.refl s, hw, rfl, rfl⟩
  | succ m ih =>
    obtain ⟨ht, hw', hc, hn⟩ := ih (by omega)
    have hs := stalled_of_lt hw' (by omega)
    rw [Function.iterate_succ_apply']
    generalize advance^[m] s = u at *
    refine ⟨ht.trans (timeOnly_of_stalled hs), ?_, ?_, by rw [(advance_clock u).1, hn]; omega⟩
    · rw [advance_of_stalled hs]
      exact hs
    · rw [(advance_clock u).2, (stalled_tickDevices u hs).2.2, hc]
      omega

/-- The stalled calls before a cycle, taken off one by one. -/
theorem awaitRdy_add {s : State} (m n : Nat) (h : ∀ j < m, (tickDevices (advance^[j] s)).stalled = true) :
    awaitRdy (n + m) s = awaitRdy n (advance^[m] s) := by
  induction m generalizing n with
  | zero => rfl
  | succ m ih =>
    have hs := h m (Nat.lt_succ_self m)
    rw [show n + (m + 1) = n + 1 + m by omega, ih (n + 1) (fun j hj => h j (Nat.lt_succ_of_lt hj)), awaitRdy_succ,
      if_pos hs, Function.iterate_succ_apply', advance_of_stalled hs]

/-- Settles O35: `(228 - h) / 3 - 1` calls stay short of the line's end, and the next one reaches it. -/
theorem wsyncStallLength : Obligations.WsyncStallLength := by
  intro s hw hc h3 n
  have hn : s.tia.hclock + 3 * (n + 1) = 228 := by
    simp only [n]
    omega
  have hst : ∀ m < n, (tickDevices (advance^[m] s)).stalled = true := fun m hm => by
    obtain ⟨-, hw', hc', -⟩ := stall_iterate hw m (by omega)
    exact stalled_of_lt hw' (by omega)
  obtain ⟨ht, -, hc', hcount⟩ := stall_iterate hw n (by omega)
  have hrel : (tickDevices (advance^[n] s)).stalled = false := by
    by_contra hs
    have := (stalled_tickDevices _ (eq_true_of_ne_false hs)).2.1
    omega
  refine ⟨hst, hrel, ?_, ht.cpu, hcount, ?_⟩
  · rw [tickDevices_hclock _ (by omega)]
    omega
  · obtain ⟨k, hk⟩ : ∃ k, stallBound = k + n := ⟨75 - n, by rw [stallBound]; omega⟩
    rw [State.ready, hk, awaitRdy_add n k hst]
    cases k with
    | zero => rfl
    | succ k => rw [awaitRdy_succ, if_neg (by rw [hrel]; decide)]

/-! ### A run of calls -/

/-- The ways a run of `n` calls from `s` ends at the boundary `t` (R434, R401). -/
inductive EndsAt (pred : State → Bool) (t : State) : RunEnd → Prop where
  | stopped (h : pred t = true) : EndsAt pred t (.stopped t)
  | faulted (r : UnimplementedOpcode) (h : pred t = false) (hp : t.cfg.unimplPolicy = .fatal) (hf : t.cpuFault = some r) :
    EndsAt pred t (.faulted (.unimplementedOpcode r.pc r.opcode) t)

/-- Before a call the run ends, or the predicate is false and the CPU not stuck. -/
theorem runUntil_succ (pred : State → Bool) (n : Nat) (s : State) :
    EndsAt pred s (runUntil pred (n + 1) s) ∨
      pred s = false ∧ s.stuck = false ∧ runUntil pred (n + 1) s = runUntil pred n (advance s) := by
  rw [runUntil]
  cases hp : pred s
  · rw [if_neg (by decide)]
    cases hf : s.cpuFault with
    | none => exact .inr ⟨rfl, by rw [State.stuck, hf]; rfl, rfl⟩
    | some r =>
      cases hu : s.cfg.unimplPolicy with
      | fatal => exact .inl (.faulted r hp hu hf)
      | skip => exact .inr ⟨rfl, by rw [State.stuck, hu]; exact Bool.and_false _, rfl⟩
  · exact .inl (.stopped hp)

/-- A run of at most `n` calls makes `k` of them, none from a boundary where it should have ended, and then ends, or `k` is
`n`. -/
theorem runUntil_cases (pred : State → Bool) (n : Nat) : ∀ s : State, ∃ k ≤ n,
    (∀ j < k, pred (advance^[j] s) = false ∧ (advance^[j] s).stuck = false) ∧
      (EndsAt pred (advance^[k] s) (runUntil pred n s) ∨ k = n ∧ runUntil pred n s = .running (advance^[k] s)) := by
  induction n with
  | zero => exact fun s => ⟨0, le_rfl, fun j hj => absurd hj (Nat.not_lt_zero j), .inr ⟨rfl, rfl⟩⟩
  | succ n ih =>
    intro s
    rcases runUntil_succ pred n s with h | ⟨hp, hs, e⟩
    · exact ⟨0, Nat.zero_le _, fun j hj => absurd hj (Nat.not_lt_zero j), .inl h⟩
    · obtain ⟨k, hk, hj, h⟩ := ih (advance s)
      refine ⟨k + 1, Nat.succ_le_succ hk, fun j hjk => ?_, by rw [e]; exact h.imp_right fun h => ⟨by rw [h.1], h.2⟩⟩
      cases j with
      | zero => exact ⟨hp, hs⟩
      | succ j => exact hj j (Nat.lt_of_succ_lt_succ hjk)

/-- Settles O60: the three ends of a run, told apart by its answer. -/
theorem runUntilStops : Obligations.RunUntilStops := by
  intro pred n s t
  obtain ⟨k, hk, hj, h⟩ := runUntil_cases pred n s
  refine ⟨fun e => ?_, fun f e => ?_, fun e => ?_⟩ <;> rw [e] at h
  · rcases h with h | ⟨-, h⟩
    · cases h with
      | stopped h => exact ⟨h, k, hk, rfl, hj⟩
    · cases h
  · rcases h with h | ⟨-, h⟩
    · cases h with
      | faulted r h hp hf => exact ⟨h, hp, ⟨r, hf, rfl⟩, k, hk, rfl, hj⟩
    · cases h
  · rcases h with h | ⟨rfl, h⟩
    · cases h
    · exact ⟨RunEnd.running.inj h, hj⟩

end Sys2Proof.Proofs
end

section
/-! SUPPORT. TIA ticks in a row: the delayed writes, the pixels of a line and the audio dividers (60_exceptions.md R459, R470,
R474, R475, R482). -/

namespace Sys2Proof.Proofs

open Sys2Proof.Machine Sys2Proof.Laws

/-! ### Delayed writes -/

/-- An entry `k` color clocks older (R475). -/
def aged (k : Nat) (w : PendingWrite) : PendingWrite := { w with remaining := w.remaining - k }

/-- The effect of an applied entry does not depend on its age. -/
theorem apply_aged (g : Graphics) (k : Nat) (w : PendingWrite) : g.apply (aged k w) = g.apply w := rfl

/-- The entries with more than `k` clocks to go, `k` clocks older. -/
def waiting (k : Nat) (ws : List PendingWrite) : List PendingWrite :=
  (ws.filter fun w => decide (k < w.remaining)).map (aged k)

theorem agePending_waiting (k : Nat) (ws : List PendingWrite) :
    agePending (waiting k ws) = (ws.filter fun w => decide (k < w.remaining)).map (aged (k + 1)) := by
  rw [agePending, waiting, List.map_map]
  rfl

theorem keptPending_waiting (k : Nat) (ws : List PendingWrite) : keptPending (waiting k ws) = waiting (k + 1) ws := by
  rw [keptPending, agePending_waiting, List.filter_map, List.filter_filter, waiting]
  congr 1
  refine List.filter_congr fun w _ => ?_
  simp only [Function.comp, aged, ← decide_not, ← Bool.decide_and, beq_eq_decide, decide_eq_decide]
  omega

theorem duePending_waiting (k : Nat) (ws : List PendingWrite) :
    duePending (waiting k ws) = (ws.filter fun w => decide (w.remaining = k + 1)).map (aged (k + 1)) := by
  rw [duePending, agePending_waiting, List.filter_map, List.filter_filter]
  congr 1
  refine List.filter_congr fun w _ => ?_
  simp only [Function.comp, aged, ← Bool.decide_and, beq_eq_decide, decide_eq_decide]
  omega

theorem waiting_zero {ws : List PendingWrite} (h : ∀ w ∈ ws, 1 ≤ w.remaining) : waiting 0 ws = ws := by
  rw [waiting, List.filter_eq_self.mpr fun w hw => decide_eq_true (Nat.lt_of_succ_le (h w hw))]
  exact List.map_id ws

theorem tick_pending_iterate {t : Tia} (h : ∀ w ∈ t.pending, 1 ≤ w.remaining) (div k : Nat) :
    ((Tia.tick div)^[k] t).pending = waiting k t.pending := by
  induction k with
  | zero => exact (waiting_zero h).symm
  | succ k ih =>
    rw [Function.iterate_succ_apply', ← keptPending_waiting, ← ih]
    rfl

/-- Settles O45: after `k` ticks the entries with more than `k` clocks wait, and the next tick applies those with one left. -/
theorem delayedWrites : Obligations.DelayedWrites := by
  refine ⟨fun a v s ha => ?_, fun div t k h => ⟨tick_pending_iterate h div k, ?_⟩, fun g v n => ?_⟩
  · rw [memWrite_tia_of_target v s ha]
    simp only [List.forall_mem_cons, List.not_mem_nil, false_imp_iff, implies_true, and_true]
    and_intros <;> exact fun h => by rw [h]; rfl
  · have hd : duePending ((Tia.tick div)^[k] t).pending =
        (t.pending.filter fun w => decide (w.remaining = k + 1)).map (aged (k + 1)) := by
      rw [tick_pending_iterate h div k, duePending_waiting]
    rw [Function.iterate_succ_apply']
    change (duePending _).foldl Graphics.apply _ = _
    rw [hd, List.foldl_map]
    simp only [apply_aged]
  · and_intros <;> rfl

/-! ### A line -/

/-- Short of the line's end a tick moves the beam by one color clock and stays on the line (R467). -/
theorem tick_of_lt {t : Tia} (h : t.hclock + 1 < 228) (div : Nat) :
    (t.tick div).hclock = t.hclock + 1 ∧ (t.tick div).frame = t.frame ∧ (t.tick div).scanline = t.scanline := by
  have hw : ((t.beforeRender.collide).audioStep div).wraps = false := decide_eq_false (by
    change ¬ 228 ≤ t.hclock + 1
    omega)
  rw [Tia.tick, Tia.advanceClock, hw]
  exact ⟨rfl, rfl, rfl⟩

/-- After `k` ticks of a line the records sent are those of the pixels before color clock `k`, the newest first. -/
def LinePixels (s : State) (k : Nat) (u : State) : Prop :=
  ∃ ps, u.video = ps ++ s.video ∧ ps.map (fun p => p.x) = (List.range (k - 68)).reverse ∧
    ∀ p ∈ ps, p.frame = s.tia.frame ∧ p.scanline = s.tia.scanline

/-- One tick sends the record of its color clock, none in horizontal blank (R470, R474). -/
theorem linePixels_tickTia {s u : State} {k : Nat} (h : LinePixels s k u) (hc : u.tia.hclock = k)
    (hf : u.tia.frame = s.tia.frame) (hl : u.tia.scanline = s.tia.scanline) : LinePixels s (k + 1) (tickTia u) := by
  obtain ⟨ps, hv, hx, hp⟩ := h
  obtain ⟨hblank, hvisible⟩ := pixelColour.2 u.tia.beforeRender
  have hc' : u.tia.beforeRender.hclock = k := hc
  have hv' : (tickTia u).video = u.tia.beforeRender.pixelOut ++ (ps ++ s.video) := by rw [← hv]; rfl
  by_cases hk : k < 68
  · refine ⟨ps, by rw [hv', hblank (by omega)]; rfl, ?_, hp⟩
    rw [hx, show k + 1 - 68 = k - 68 by omega]
  · obtain ⟨colour, ho, -⟩ := hvisible (by omega)
    refine ⟨_ :: ps, by rw [hv', ho]; rfl, ?_, List.forall_mem_cons.mpr ⟨⟨hf, hl⟩, hp⟩⟩
    rw [List.map_cons, hx, show k + 1 - 68 = k - 68 + 1 by omega, List.range_succ, List.reverse_append, hc']
    rfl

/-- The first 227 ticks of a line stay on it. -/
theorem line_iterate {s : State} (h : s.tia.hclock = 0) (k : Nat) (hk : k < 228) :
    LinePixels s k (tickTia^[k] s) ∧ (tickTia^[k] s).tia.hclock = k ∧ (tickTia^[k] s).tia.frame = s.tia.frame ∧
      (tickTia^[k] s).tia.scanline = s.tia.scanline := by
  induction k with
  | zero => exact ⟨⟨[], rfl, rfl, by simp⟩, h, rfl, rfl⟩
  | succ k ih =>
    obtain ⟨hp, hc, hf, hl⟩ := ih (by omega)
    rw [Function.iterate_succ_apply']
    generalize tickTia^[k] s = u at *
    obtain ⟨hc', hf', hl'⟩ := tick_of_lt (t := u.tia) (by omega) u.cfg.audioClockDiv
    exact ⟨linePixels_tickTia hp hc hf hl, by rw [← hc]; exact hc', hf'.trans hf, hl'.trans hl⟩

/-- Settles O51: 227 ticks on the line and the one that ends it. -/
theorem lineOfPixels : Obligations.LineOfPixels := by
  intro s h
  obtain ⟨hp, hc, hf, hl⟩ := line_iterate h 227 (by omega)
  rw [show 228 = 227 + 1 from rfl, Function.iterate_succ_apply']
  obtain ⟨ps, hv, hx, hps⟩ := linePixels_tickTia hp hc hf hl
  refine ⟨ps, hv, hx, hps, ?_⟩
  change (Tia.tick _ _).hclock = 0
  rw [tia_tick_hclock, hc]
  rfl

/-! ### Audio -/

/-- One audio step of a channel, its divider and its output, with the register value `f` (R482). -/
def channelStep (f : Nat) (c : Nat × Bool) : Nat × Bool := if c.1 = 0 then (f, !c.2) else (c.1 - 1, c.2)

theorem channelStep_iterate (f : Nat) (b : Bool) : ∀ k d, k ≤ d → (channelStep f)^[k] (d, b) = (d - k, b) := by
  intro k
  induction k with
  | zero => exact fun d _ => rfl
  | succ k ih =>
    intro d h
    rw [Function.iterate_succ_apply', ih d (by omega), channelStep, if_neg (by simp only; omega)]
    rfl

theorem channelStep_fst (f : Nat) (c : Nat × Bool) : (channelStep f c).1 = if c.1 = 0 then f else c.1 - 1 := by
  unfold channelStep
  split <;> rfl

theorem channelStep_snd (f : Nat) (c : Nat × Bool) : (channelStep f c).2 = if c.1 = 0 then !c.2 else c.2 := by
  unfold channelStep
  split <;> rfl

/-- A channel counts its divider down and toggles where it is 0 (R482). -/
theorem channelStep_period (f : Nat) (b : Bool) : (channelStep f)^[f + 1] (f, b) = (f, !b) := by
  rw [Function.iterate_succ_apply', channelStep_iterate f b f f le_rfl, Nat.sub_self]
  rfl

/-- The audio state after an audio step (R482). -/
def audioStepped (r : TiaRegs) (a : AudioState) : AudioState where
  pre := 0
  div0 := (channelStep r.audf0.toNat (a.div0, a.out0)).1
  div1 := (channelStep r.audf1.toNat (a.div1, a.out1)).1
  out0 := (channelStep r.audf0.toNat (a.div0, a.out0)).2
  out1 := (channelStep r.audf1.toNat (a.div1, a.out1)).2

theorem tick_audio (div : Nat) (t : Tia) : (t.tick div).audio =
    if t.audio.pre + 1 = div then audioStepped t.regs t.audio else { t.audio with pre := t.audio.pre + 1 } := by
  change (t.beforeRender.collide.audioStep div).audio = _
  have ha : t.beforeRender.collide.audio = t.audio := rfl
  simp only [Tia.audioStep, audioStepNow, ha, beq_iff_eq, audioStepped, channelStep_fst, channelStep_snd]
  rfl

/-- The record of an audio step, of the outputs after it (R486). -/
theorem tickTia_audioOut (s : State) : (tickTia s).audioOut =
    (s.tia.tick s.cfg.audioClockDiv).audioRecord (audioStepNow s.cfg.audioClockDiv s.tia.audio) ++ s.audioOut := rfl

/-- Below a full prescaler a tick only counts it. -/
theorem tick_audio_iterate {div : Nat} {t : Tia} (h : t.audio.pre = 0) (k : Nat) (hk : k < div) :
    ((Tia.tick div)^[k] t).audio = { t.audio with pre := k } ∧ ((Tia.tick div)^[k] t).regs = t.regs := by
  induction k with
  | zero => exact ⟨congrArg (fun p => { t.audio with pre := p }) h, rfl⟩
  | succ k ih =>
    obtain ⟨ha, hr⟩ := ih (by omega)
    rw [Function.iterate_succ_apply', tick_audio, ha, if_neg (by simp only; omega)]
    exact ⟨rfl, hr⟩

/-- `div` ticks from an empty prescaler are one audio step. -/
theorem tick_audio_div {div : Nat} {t : Tia} (hd : 1 ≤ div) (h : t.audio.pre = 0) :
    ((Tia.tick div)^[div] t).audio = audioStepped t.regs t.audio ∧ ((Tia.tick div)^[div] t).regs = t.regs := by
  obtain ⟨d, rfl⟩ := Nat.exists_eq_add_of_le' hd
  obtain ⟨ha, hr⟩ := tick_audio_iterate h d (Nat.lt_succ_self d)
  rw [Function.iterate_succ_apply', tick_audio, ha, hr, if_pos rfl]
  exact ⟨rfl, hr⟩

theorem tick_audio_steps {div : Nat} (hd : 1 ≤ div) (n : Nat) : ∀ t : Tia, t.audio.pre = 0 →
    ((Tia.tick div)^[div * n] t).audio = (audioStepped t.regs)^[n] t.audio := by
  rw [Function.iterate_mul]
  induction n with
  | zero => exact fun _ _ => rfl
  | succ n ih =>
    intro t h
    obtain ⟨ha, hr⟩ := tick_audio_div hd h
    rw [Function.iterate_succ_apply, ih _ (by rw [ha]; rfl), ha, hr]
    rfl

theorem audioStepped_channel0 (r : TiaRegs) (n : Nat) (a : AudioState) :
    (((audioStepped r)^[n] a).div0, ((audioStepped r)^[n] a).out0) = (channelStep r.audf0.toNat)^[n] (a.div0, a.out0) :=
  (Function.Semiconj.iterate_right (f := fun a : AudioState => (a.div0, a.out0)) (fun _ => rfl) n) a

theorem audioStepped_channel1 (r : TiaRegs) (n : Nat) (a : AudioState) :
    (((audioStepped r)^[n] a).div1, ((audioStepped r)^[n] a).out1) = (channelStep r.audf1.toNat)^[n] (a.div1, a.out1) :=
  (Function.Semiconj.iterate_right (f := fun a : AudioState => (a.div1, a.out1)) (fun _ => rfl) n) a

theorem audioStepped_pre (r : TiaRegs) (n : Nat) (a : AudioState) : ((audioStepped r)^[n + 1] a).pre = 0 := by
  rw [Function.iterate_succ_apply']
  rfl

/-- Settles O54: the audio step by its prescaler, and a channel's period counted in audio steps. -/
theorem audioStepsAndPeriod : Obligations.AudioStepsAndPeriod := by
  refine ⟨fun s => ?_, fun div t hd h => ?_⟩
  · have ha := tick_audio s.cfg.audioClockDiv s.tia
    refine ⟨fun h => ?_, fun h => ?_⟩
    · rw [if_neg h] at ha
      refine ⟨ha, ?_⟩
      rw [tickTia_audioOut, audioStepNow, beq_false_of_ne h]
      rfl
    · rw [if_pos h] at ha
      refine ⟨ha.trans ?_, ?_⟩
      · simp only [audioStepped, channelStep_fst, channelStep_snd]
      · rw [tickTia_audioOut, audioStepNow, beq_iff_eq.mpr h]
        rfl
  · have steps := fun n => tick_audio_steps hd n t h
    refine ⟨fun h0 => ?_, fun h1 => ?_⟩
    · intro u
      have hc := audioStepped_channel0 t.regs (t.regs.audf0.toNat + 1) t.audio
      rw [h0, channelStep_period, ← steps] at hc
      obtain ⟨hd0, ho0⟩ := Prod.mk.inj hc
      exact ⟨ho0, hd0.trans h0.symm, by rw [steps, audioStepped_pre]⟩
    · intro u
      have hc := audioStepped_channel1 t.regs (t.regs.audf1.toNat + 1) t.audio
      rw [h1, channelStep_period, ← steps] at hc
      obtain ⟨hd1, ho1⟩ := Prod.mk.inj hc
      exact ⟨ho1, hd1.trans h1.symm, by rw [steps, audioStepped_pre]⟩

end Sys2Proof.Proofs
end

section
/-! SUPPORT. The RIOT: its registers, one timer tick, and the count after a load (60_exceptions.md R450 to R456). -/

namespace Sys2Proof.Proofs

open Sys2Proof.Machine Sys2Proof.Laws

/-! ### The registers -/

/-- The two low address bits, as the number that selects a register (R67). -/
theorem getLsbD_of_mod_four (a : Word) {i : Nat} (h : i < 2) : a.getLsbD i = (a.toNat % 4).testBit i := by
  rw [show 4 = 2 ^ 2 from rfl, Nat.testBit_mod_two_pow, decide_eq_true h, Bool.true_and]
  rfl

theorem portRead_getLsbD (ddr out pins : Byte) {k : Nat} (h : k < 8) :
    (portRead ddr out pins).getLsbD k = if ddr.getLsbD k then out.getLsbD k else pins.getLsbD k := by
  simp only [portRead, BitVec.getLsbD_or, BitVec.getLsbD_and, BitVec.getLsbD_not, h, decide_true, Bool.true_and]
  cases ddr.getLsbD k <;> simp

/-- A RIOT read answers and leaves what `Riot.read` says (R67). -/
theorem memRead_riot_of_target {a : Word} (h : busTarget a = .riot) (s : State) :
    (memRead a s).1 = (s.riot.read s.input a).1 ∧ (memRead a s).2.riot = (s.riot.read s.input a).2 := by
  rw [memRead_of_riot h]
  exact ⟨rfl, rfl⟩

section

variable {r : Riot} {inp : Inputs} {a : Word} {v : Byte}

theorem riot_read_intim (h2 : a.getLsbD 2 = true) (h0 : a.getLsbD 0 = false) :
    r.read inp a = (r.timer, { r with underflow := false }) := by
  rw [Riot.read, h2, h0]
  rfl

theorem riot_read_instat (h2 : a.getLsbD 2 = true) (h0 : a.getLsbD 0 = true) : r.read inp a = (r.instat, r) := by
  rw [Riot.read, h2, h0]
  rfl

/-- The byte that a read of port register `k` answers (R67, R452). -/
def portValue (r : Riot) (inp : Inputs) : Nat → Byte
  | 0 => portRead r.ddra r.ora inp.pa
  | 1 => r.ddra
  | 2 => portRead r.ddrb r.orb inp.pb
  | _ => r.ddrb

/-- The RIOT after a write of `v` to port register `k` (R67, R453). -/
def portWritten (r : Riot) (v : Byte) : Nat → Riot
  | 0 => { r with ora := v }
  | 1 => { r with ddra := v }
  | 2 => { r with orb := v }
  | _ => { r with ddrb := v }

theorem riot_port {k : Nat} (h2 : a.getLsbD 2 = false) (hk : a.toNat % 4 = k) :
    r.read inp a = (portValue r inp k, r) ∧ r.write a v = portWritten r v k := by
  have hlt : k < 4 := hk ▸ Nat.mod_lt _ (by decide)
  rw [Riot.read, Riot.write, h2, getLsbD_of_mod_four a (by decide : 0 < 2), getLsbD_of_mod_four a (by decide : 1 < 2), hk]
  interval_cases k <;> exact ⟨rfl, rfl⟩

end

/-- Settles O43: the branches of the RIOT's reads and port writes; in a cycle the call's ticks come before its read. -/
theorem riotRegisters : Obligations.RiotRegisters := by
  intro a v s ha
  obtain ⟨hv, hr⟩ := memRead_riot_of_target ha s
  have hw := memWrite_of_riot ha v s
  refine ⟨fun h2 => ⟨fun h0 => ⟨?_, ?_, fun hs => ?_⟩, fun h0 => ⟨?_, ?_⟩⟩, fun h2 => ⟨?_, ?_, ?_, ?_, ?_⟩⟩
  · rw [hv, riot_read_intim h2 h0]
  · rw [hr, riot_read_intim h2 h0]
  · obtain ⟨hv', hr'⟩ := memRead_riot_of_target ha (tickDevices s)
    rw [cycleRead, ready_eq_tickDevices s hs, endCall_riot, hv', hr', riot_read_intim h2 h0, tickDevices_riot]
    exact ⟨rfl, rfl⟩
  · rw [hv, riot_read_instat h2 h0]
    rfl
  · rw [hr, riot_read_instat h2 h0]
  · rw [hr, (riot_port (v := v) h2 rfl).1]
  all_goals
    intro h
    obtain ⟨hpr, hpw⟩ := riot_port (r := s.riot) (inp := s.input) (v := v) h2 h
    rw [hv, hw, hpr, hpw]
  · exact ⟨fun k hk => portRead_getLsbD _ _ _ hk, rfl⟩
  · exact ⟨rfl, rfl⟩
  · exact ⟨fun k hk => portRead_getLsbD _ _ _ hk, rfl⟩
  · exact ⟨rfl, rfl⟩

/-! ### The timer -/

/-- The timer in interval mode, `m` in the timer and `p` in the prescaler (R450). -/
def counting (r : Riot) (i : Interval) (m p : Nat) : Riot :=
  { r with timer := BitVec.ofNat 8 m, shift := i, prescale := p, underflow := false, fast := false }

/-- The timer in fast mode after the wrap, `k` ticks later (R450). -/
def wrapped (r : Riot) (i : Interval) (k : Nat) : Riot :=
  { r with timer := 0xFF - BitVec.ofNat 8 k, shift := i, prescale := i.ticks - 1, underflow := true, fast := true }

section

variable (r : Riot) (i : Interval)

theorem tick_counting_prescale (m p : Nat) : (counting r i m (p + 1)).tick = counting r i m p := rfl

theorem tick_counting_succ {m : Nat} (h : m + 1 < 256) :
    (counting r i (m + 1) 0).tick = counting r i m (i.ticks - 1) := by
  have h0 : BitVec.ofNat 8 (m + 1) ≠ 0 := by bv_omega
  have h1 : BitVec.ofNat 8 (m + 1) - 1 = BitVec.ofNat 8 m := by bv_omega
  simp only [Riot.tick, counting, Bool.false_eq_true, if_false, if_true, if_neg h0, h1]

theorem tick_counting_zero : (counting r i 0 0).tick = wrapped r i 0 := rfl

theorem tick_wrapped (k : Nat) : (wrapped r i k).tick = wrapped r i (k + 1) := by
  have h : (0xFF : Byte) - BitVec.ofNat 8 k - 1 = 0xFF - BitVec.ofNat 8 (k + 1) := by bv_omega
  simp only [Riot.tick, wrapped, if_true, h, Bool.true_or]

theorem counting_iterate (m p : Nat) (e : Nat) (h : e ≤ p) : Riot.tick^[e] (counting r i m p) = counting r i m (p - e) := by
  induction e with
  | zero => rfl
  | succ e ih =>
    rw [Function.iterate_succ_apply', ih (by omega), show p - e = p - (e + 1) + 1 by omega, tick_counting_prescale]

theorem wrapped_iterate (k : Nat) : Riot.tick^[k] (wrapped r i 0) = wrapped r i k := by
  induction k with
  | zero => rfl
  | succ k ih => rw [Function.iterate_succ_apply', ih, tick_wrapped]

/-- One interval counts the timer down once (R450). -/
theorem counting_interval {m : Nat} (h : m + 1 < 256) :
    Riot.tick^[i.ticks] (counting r i (m + 1) 0) = counting r i m 0 := by
  obtain ⟨n, hn⟩ := Nat.exists_eq_add_of_le' (interval_ticks_pos i)
  rw [hn, Function.iterate_succ_apply, tick_counting_succ r i h, hn, Nat.add_sub_cancel,
    counting_iterate r i m n n le_rfl, Nat.sub_self]

theorem counting_intervals {m : Nat} (h : m < 256) (j : Nat) (hj : j ≤ m) :
    Riot.tick^[j * i.ticks] (counting r i m 0) = counting r i (m - j) 0 := by
  induction j with
  | zero => simp
  | succ j ih =>
    rw [Nat.succ_mul, Nat.add_comm, Function.iterate_add_apply, ih (by omega), show m - j = m - (j + 1) + 1 by omega,
      counting_interval r i (by omega)]

/-- In the `j`-th interval after the load the timer is `j` below the value loaded. -/
theorem counting_at {m : Nat} (h : m < 256) {j e : Nat} (hj : j + 1 ≤ m) (he : e < i.ticks) :
    Riot.tick^[e + 1 + j * i.ticks] (counting r i m 0) = counting r i (m - (j + 1)) (i.ticks - 1 - e) := by
  rw [Function.iterate_add_apply, counting_intervals r i h j (by omega), Function.iterate_succ_apply,
    show m - j = m - (j + 1) + 1 by omega, tick_counting_succ r i (by omega), counting_iterate r i _ _ e (by omega)]

/-- After the last interval the timer wraps and counts down once a tick. -/
theorem counting_wrap {m : Nat} (h : m < 256) (k : Nat) :
    Riot.tick^[k + 1 + m * i.ticks] (counting r i m 0) = wrapped r i k := by
  rw [Function.iterate_add_apply, counting_intervals r i h m le_rfl, Nat.sub_self, Function.iterate_succ_apply,
    tick_counting_zero, wrapped_iterate]

end

theorem loadTimer_eq (r : Riot) (i : Interval) (v : Byte) : r.loadTimer i v = counting r i v.toNat 0 := by
  rw [counting, BitVec.ofNat_toNat, BitVec.setWidth_eq]
  rfl

/-- Settles O42: a tick by its cases, the load by its address, and the count interval by interval. -/
theorem timerLoadAndCount : Obligations.TimerLoadAndCount := by
  refine ⟨fun r => ?_, fun a v s ha h2 h4 => ?_, fun r i v n => ?_⟩
  · intro size
    have hs : size = r.shift.ticks := rfl
    refine ⟨fun hf => ?_, fun hf hp ht => ?_, fun hf hp ht => ?_, fun hf hp => ?_⟩
    · have ht : r.timer - 1 = BitVec.ofNat 8 (r.timer.toNat + 255) := by bv_omega
      have hu : (r.underflow || r.timer == 0) = if r.timer = 0 then true else r.underflow := by
        split_ifs with h
        · rw [h, beq_self_eq_true, Bool.or_true]
        · rw [beq_false_of_ne h, Bool.or_false]
      rw [Riot.tick, if_pos hf, ht, hu]
    · simp [Riot.tick, hf, hp, ht, hs]
    · have h1 : r.timer - 1 = BitVec.ofNat 8 (r.timer.toNat - 1) := by bv_omega
      rw [Riot.tick, if_neg (by rw [hf]; decide), if_pos hp, if_neg ht, h1, hs]
    · simp [Riot.tick, hf, Nat.pos_iff_ne_zero.mp hp]
  · rw [memWrite_of_riot ha v s, Riot.write, h2, h4]
    simp only [List.forall_mem_cons, List.not_mem_nil, false_imp_iff, implies_true, and_true]
    and_intros <;> exact fun h => by rw [h]; rfl
  · intro q size
    have hs : size = i.ticks := rfl
    have hq : q = Riot.tick^[n] (counting r i v.toNat 0) := by rw [← loadTimer_eq, ← riot_ticks_eq_iterate]
    have hN := interval_ticks_pos i
    refine ⟨riot_ticks_eq_iterate n _, fun h => ?_, fun j hj hv h1 h2 => ?_, fun k h => ?_⟩
    · subst h
      rfl
    · obtain ⟨j, rfl⟩ := Nat.exists_eq_add_of_le' hj
      rw [Nat.add_sub_cancel, hs] at h1
      rw [hs, Nat.succ_mul] at h2
      obtain ⟨e, rfl⟩ := Nat.exists_eq_add_of_le h1
      rw [hq, show 1 + j * i.ticks + e = e + 1 + j * i.ticks by omega, counting_at r i v.isLt hv (by omega)]
      exact ⟨rfl, rfl, rfl⟩
    · rw [hq, h, hs, show 1 + v.toNat * i.ticks + k = k + 1 + v.toNat * i.ticks by omega, counting_wrap r i v.isLt]
      refine ⟨?_, rfl, rfl⟩
      change (0xFF : Byte) - BitVec.ofNat 8 k = _
      bv_omega

end Sys2Proof.Proofs
end

section
/-! SUPPORT. Which pixels the playfield, the players, the missiles and the ball cover (60_exceptions.md R468 to R471). -/

namespace Sys2Proof.Proofs

open Sys2Proof.Machine Sys2Proof.Laws

/-! ### The playfield -/

/-- The 20 playfield bits from left to right (R468). -/
def playfieldBits (g : Graphics) : List Bool :=
  [g.pf0.getLsbD 4, g.pf0.getLsbD 5, g.pf0.getLsbD 6, g.pf0.getLsbD 7,
    g.pf1.getLsbD 7, g.pf1.getLsbD 6, g.pf1.getLsbD 5, g.pf1.getLsbD 4,
    g.pf1.getLsbD 3, g.pf1.getLsbD 2, g.pf1.getLsbD 1, g.pf1.getLsbD 0,
    g.pf2.getLsbD 0, g.pf2.getLsbD 1, g.pf2.getLsbD 2, g.pf2.getLsbD 3,
    g.pf2.getLsbD 4, g.pf2.getLsbD 5, g.pf2.getLsbD 6, g.pf2.getLsbD 7]

theorem playfieldBits_getD (g : Graphics) {j : Nat} (h : j < 20) : (playfieldBits g).getD j false =
    if j < 4 then g.pf0.getLsbD (4 + j) else if j < 12 then g.pf1.getLsbD (11 - j) else g.pf2.getLsbD (j - 12) := by
  interval_cases j <;> rfl

/-- The playfield shows its bits four pixels wide, in the right half repeated or mirrored (R468). -/
theorem playfieldBit_eq (g : Graphics) (ctrlpf : Byte) {x : Nat} (h : x < 160) : playfieldBit g ctrlpf x =
    (playfieldBits g).getD
      (if x < 80 then x / 4 else if ctrlpf.getLsbD 0 then (159 - x) / 4 else (x - 80) / 4) false := by
  have hj : (if 80 ≤ x ∧ ctrlpf.getLsbD 0 = true then 19 - x % 80 / 4 else x % 80 / 4) =
      if x < 80 then x / 4 else if ctrlpf.getLsbD 0 then (159 - x) / 4 else (x - 80) / 4 := by
    cases ctrlpf.getLsbD 0 <;> simp only [Bool.false_eq_true, and_false, and_true, if_false, if_true] <;>
      split_ifs <;> omega
  rw [playfieldBit, playfieldBits_getD g (by split_ifs <;> omega), ← hj]

/-! ### Copies on a line -/

/-- A pixel `d` to the right of a copy's left edge, wrapping at the right edge of the line (R469, R471). -/
theorem distance_eq_iff {x pos c d : Nat} (hx : x < 160) (hd : d < 160) :
    distance x pos c = d ↔ x = (pos + c + d) % 160 := by
  unfold distance
  omega

theorem distance_lt_iff {x pos c n : Nat} (hx : x < 160) (hn : n ≤ 160) :
    distance x pos c < n ↔ ∃ e < n, x = (pos + c + e) % 160 := by
  constructor
  · intro h
    exact ⟨_, h, (distance_eq_iff hx (lt_of_lt_of_le h hn)).mp rfl⟩
  · rintro ⟨e, he, h⟩
    rwa [(distance_eq_iff hx (lt_of_lt_of_le he hn)).mpr h]

/-- The offsets and the widths of R469's table, row by row. -/
theorem copyTable {n : Nat} (h : n < 8) :
    copyOffsets n = [[0], [0, 16], [0, 32], [0, 16, 32], [0, 64], [0], [0, 32, 64], [0]].getD n [] ∧
      playerWidth n = [1, 1, 1, 1, 1, 2, 1, 4].getD n 1 := by
  interval_cases n <;> exact ⟨rfl, rfl⟩

theorem playerWidth_bounds (n : Nat) : 0 < playerWidth n ∧ playerWidth n ≤ 4 := by
  unfold playerWidth
  split <;> decide

theorem objectWidth_le (v : Byte) : objectWidth v ≤ 8 :=
  Nat.pow_le_pow_right (by decide) (Nat.le_of_lt_succ (Nat.mod_lt _ (by decide)) : v.toNat / 16 % 4 ≤ 3)

/-- The eight pattern bits of one copy, each `w` pixels wide. -/
theorem distance_lt_bits_iff {x pos c w : Nat} (hx : x < 160) (h0 : 0 < w) (h4 : w ≤ 4) (bit : Nat → Prop) :
    distance x pos c < 8 * w ∧ bit (distance x pos c / w) ↔
      ∃ k < 8, ∃ e < w, x = (pos + c + k * w + e) % 160 ∧ bit k := by
  constructor
  · rintro ⟨hd, hb⟩
    refine ⟨distance x pos c / w, Nat.div_lt_of_lt_mul (by rwa [Nat.mul_comm]), distance x pos c % w,
      Nat.mod_lt _ h0, ?_, hb⟩
    rw [Nat.add_assoc, Nat.div_add_mod']
    exact (distance_eq_iff hx (by omega)).mp rfl
  · rintro ⟨k, hk, e, he, h, hb⟩
    have hl : k * w + e < 8 * w := by
      have := Nat.mul_le_mul_right w (Nat.le_of_lt_succ hk)
      omega
    rw [(distance_eq_iff hx (by omega : k * w + e < 160)).mpr (by rwa [← Nat.add_assoc])]
    refine ⟨hl, ?_⟩
    rwa [Nat.mul_comm, Nat.mul_add_div h0, Nat.div_eq_of_lt he, Nat.add_zero]

theorem copyBit_iff (pattern : Byte) (reflect : Bool) {x pos c w : Nat} (hx : x < 160) (h0 : 0 < w) (h4 : w ≤ 4) :
    (decide (distance x pos c < 8 * w) && if reflect then pattern.getLsbD (distance x pos c / w)
      else pattern.getLsbD (7 - distance x pos c / w)) = true ↔
      ∃ k < 8, ∃ e < w, x = (pos + c + k * w + e) % 160 ∧ pattern.getLsbD (if reflect then k else 7 - k) = true := by
  rw [← distance_lt_bits_iff hx h0 h4 fun k => pattern.getLsbD (if reflect then k else 7 - k) = true, Bool.and_eq_true,
    decide_eq_true_eq]
  cases reflect <;> rfl

/-- Settles O50: the playfield by its bits, the objects by the distance from each copy. -/
theorem objectPixels : Obligations.ObjectPixels := by
  refine ⟨fun g ctrlpf x hx => playfieldBit_eq g ctrlpf hx, fun nusiz pos x _ hx => ?_, fun t x => ?_⟩
  · intro n offsets w
    obtain ⟨ho, hw⟩ := copyTable (Nat.mod_lt nusiz.toNat (by decide : 0 < 8))
    obtain ⟨h0, h4⟩ := playerWidth_bounds (nusizNumber nusiz)
    have hn := objectWidth_le nusiz
    have span : ∀ c, distance x pos c < objectWidth nusiz ↔
        ∃ e < 2 ^ (nusiz.toNat / 16 % 4), x = (pos + c + e) % 160 := fun c => distance_lt_iff hx (by omega)
    refine ⟨fun pattern reflect => ?_, fun enabled => ?_, fun enabled => ?_⟩
    · simp only [playerBit, List.any_eq_true, copyBit_iff pattern reflect hx h0 h4]
      rw [nusizNumber, ho, hw]
    · simp only [missileBit, Bool.and_eq_true, List.any_eq_true, decide_eq_true_eq, span]
      rw [nusizNumber, ho]
    · simp only [ballBit, Bool.and_eq_true, decide_eq_true_eq, span, Nat.add_zero]
  · have hide : ∀ resmp : Byte, ∀ en : Bool, (en && !resmp.getLsbD 1) = if resmp.getLsbD 1 then false else en := by
      intro resmp en
      cases resmp.getLsbD 1 <;> simp
    intro g r o
    refine ⟨rfl, rfl, rfl, ?_, ?_, rfl⟩
    · rw [← hide]
      rfl
    · rw [← hide]
      rfl

end Sys2Proof.Proofs
end

section
/-! SUPPORT. The CPU's `reset()` of a machine in any state (70_reset_and_hazards.md R501 to R504). -/

namespace Sys2Proof.Proofs

open Sys2Proof.Machine Sys2Proof.Laws

/-- A read elsewhere leaves the RIOT as it was (R67). -/
theorem memRead_riot_of_ne {a : Word} (h : busTarget a ≠ .riot) (s : State) : (memRead a s).2.riot = s.riot := by
  simp only [memRead, readTarget]
  split
  case h_3 ha => exact absurd ha h
  all_goals rfl

/-- The machine between the vector's two reads and the CPU's own changes. -/
def afterVectorReads (s : State) : State := (memRead 0xFFFD (memRead 0xFFFC s).2).2

/-- The vector's reads leave what any two accesses leave (R503). -/
theorem afterVectorReads_keeps (s : State) : AccessKeeps s (afterVectorReads s) :=
  (memRead_keeps 0xFFFC s).trans (memRead_keeps 0xFFFD _)

theorem afterVectorReads_ram (s : State) : (afterVectorReads s).ram = s.ram := by
  rw [afterVectorReads, memRead_ram, memRead_ram]

theorem afterVectorReads_tia (s : State) : (afterVectorReads s).tia = s.tia := by
  rw [afterVectorReads, memRead_tia, memRead_tia]

/-- The vector lies in the cartridge window, where no read can clear the timer's underflow (R61, R501). -/
theorem afterVectorReads_riot (s : State) : (afterVectorReads s).riot = s.riot := by
  rw [afterVectorReads, memRead_riot_of_ne (by decide), memRead_riot_of_ne (by decide)]

/-- `reset()` is the vector's reads, then changes to the CPU alone (R501, R502). -/
theorem cpuReset_eq (s : State) : cpuReset s =
    (((afterVectorReads s).mapCpu fun c =>
      { c with pc := wordOf (memRead 0xFFFD (memRead 0xFFFC s).2).1 (memRead 0xFFFC s).1, i := false, b := false }).withPipe
        Latches.idle).withCpuFault none := rfl

/-- Settles O56: the vector's reads keep the CPU, the counter, the RAM, the TIA and the RIOT, and plain code keeps the
cartridge too. -/
theorem cpuResetEffects : Obligations.CpuResetEffects := by
  intro s
  have hkeeps := afterVectorReads_keeps s
  refine ⟨?cpu, ?tcyc, ?cpuFault, ?ram, ?tia, ?riot, ?cycleCounter, fun lo hi hl hh => cpuReset_of_codeByte hl hh⟩
  all_goals rw [cpuReset_eq]
  case cpu => simp [hkeeps.cpu]
  case tcyc => rfl
  case cpuFault => rfl
  case ram => simp [afterVectorReads_ram]
  case tia => simp [afterVectorReads_tia]
  case riot => simp [afterVectorReads_riot]
  case cycleCounter => simp [hkeeps.cycleCounter]

end Sys2Proof.Proofs
end
